-- ==== Sys2Proof/Word.lean ====
section
/-! DEFINITION. The words of the link and of the wrapping counters. -/

namespace Sys2Proof

/-- One byte of the link (R166). -/
abbrev Byte := BitVec 8

/-- A two-byte field of a record (R182). -/
abbrev Half := BitVec 16

/-- A four-byte field of a record (R182). -/
abbrev Quad := BitVec 32

/-- A whole-millimetre odometer value, wrapping at 2^32 (R6). -/
abbrev Odo := BitVec 32

/-- A value of the 1 MHz time base, wrapping at 2^32 (section 1.1). -/
abbrev Stamp := BitVec 32

/-- A raw count of the 12-bit converter (R20), or an Im of 0..4095 mA (R102). -/
abbrev Count := BitVec 12

end Sys2Proof
end

