-- ==== Sys2Proof/Config.lean ====
section
/-! DEFINITION. The free values: constants without a body, so that no proof can know them. The constants the spec fixes
stand in Machine/Arith.lean. -/

namespace Sys2Proof.Config

/-- FREE. The stream of choices the rules leave open: the order of blocks at one notice (R50, R78, R178), the order of
expiries that fall together, when a conversion of a scan completes. Log 5, log 6, log 7. -/
opaque choice : Nat → Nat

/-- FREE. The battery voltage the duty arithmetic reads while VBAT is absent (R106, R145). Log 8. -/
opaque absentVbat : Nat → Nat

/-- FREE. The Im of a regulation period that ends on an empty queue (R102). Log 7. -/
opaque senseIm : Nat → Count

/-- FREE. The raw count of a conversion that completes on an empty queue (R20). Log 7. -/
opaque rawCount : Nat → Count

end Sys2Proof.Config
end

