-- ==== Sys2Proof/Syntax.lean ====
section
/-! DEFINITION. The commands of the block: one constructor of `Instr` for each row of spec/opcode_table.json, with the
operands the rules give it. A record's field is an operand at the width the link gives it (section 10.11), so that a value
out of its range can be sent and is refused as the rules say. -/

namespace Sys2Proof

/-- The four corners (Conventions, 00). -/
inductive Corner where
  | fl | fr | rl | rr
deriving DecidableEq, Repr

/-- The two front wheels and front corners (chapter 1). -/
inductive Front where
  | fl | fr
deriving DecidableEq, Repr

/-- One value for each corner, in the order FL, FR, RL, RR. -/
structure PerCorner (α : Type) where
  fl : α
  fr : α
  rl : α
  rr : α
deriving DecidableEq, Repr

/-- One value for each front corner. -/
structure PerFront (α : Type) where
  fl : α
  fr : α
deriving DecidableEq, Repr

/-- A request frame as the inbound queue keeps it (R167, R170): payload holds the bytes read, which are none when Length is
above 48. -/
structure Frame where
  kind : Byte
  tag : Byte
  length : Byte
  payload : List Byte
  check : Byte
deriving DecidableEq, Repr

/-- The SetGeometry payload (R4). -/
structure GeometryRecord where
  wheelbase : Half
  circumference : Half
  teeth : Byte
  leadTime : Byte
  mergeDistance : Half
  previewMinSpeed : Half
deriving DecidableEq, Repr

/-- The SetCorner payload (R23). -/
structure CornerRecord where
  corner : Byte
  enabled : Byte
  travelZero : Half
  travelScale : Byte
  invert : Byte
deriving DecidableEq, Repr

/-- The SetCurve payload (R91). -/
structure CurveRecord where
  corner : Byte
  points : Vector Half 11
deriving DecidableEq, Repr

/-- The SetRegulation payload (R104). -/
structure RegulationRecord where
  fixedLatency : Byte
  probeInterval : Half
  probeCorners : Byte
  ki : Byte
  kickStep : Half
  kickTime : Byte
  quenchStep : Half
  quenchTime : Byte
deriving DecidableEq, Repr

/-- The SetSafety payload (R157). -/
structure SafetyRecord where
  demandTimeout : Half
  failsafeDemand : Half
  defaultDemand : PerCorner Half
deriving DecidableEq, Repr

/-- One step of the SetProfile payload (R59). -/
structure StepRecord where
  demand : Half
  mode : Byte
  length : Half
deriving DecidableEq, Repr

/-- The SetDetection payload (R33). -/
structure DetectionRecord where
  tc1 : Half
  tc2 : Half
  tc3 : Half
  tr1 : Half
  tr2 : Half
  tr3 : Half
  hysteresis : Half
  windowMax : Half
  mapC1 : Byte
  mapC2 : Byte
  mapC3 : Byte
  mapR1 : Byte
  mapR2 : Byte
  mapR3 : Byte
deriving DecidableEq, Repr

/-- The SetGuard payload (R81). -/
structure GuardRecord where
  corner : Byte
  bumpBand : Half
  reboundBand : Half
  guardVel : Half
  guardDemand : Half
  guardHold : Byte
deriving DecidableEq, Repr

/-- The InjectPreview payload (R54). -/
structure InjectRecord where
  corners : Byte
  distance : Half
  cls : Byte
  direction : Byte
  profile : Byte
deriving DecidableEq, Repr

/-- A request whose kind and length are sound, with its payload fields (kind table of 10.11). -/
inductive Request where
  | identify
  | readStatus
  | readCorner (corner : Byte)
  | readEvents (wanted : Byte)
  | setGeometry (r : GeometryRecord)
  | setCorner (r : CornerRecord)
  | setCurve (r : CurveRecord)
  | setRegulation (r : RegulationRecord)
  | setSafety (r : SafetyRecord)
  | setProfile (profile : Byte) (steps : List StepRecord)
  | setDetection (r : DetectionRecord)
  | setGuard (r : GuardRecord)
  | start
  | stop
  | halt
  | resume
  | park
  | restart
  | demand (values : PerCorner Half)
  | driveState (direction : Byte) (speed : Quad)
  | injectPreview (r : InjectRecord)
  | clearPreview (corners : Byte)
  | coilTest (corner : Byte)
deriving DecidableEq, Repr

/-- The commands. A request's first operand is its Tag. -/
inductive Instr where
  | powerOn
  | resetn
  | startingEnd
  | transactionBegin
  | frameComplete (check : Byte)
  | nop
  | transactionEnd
  | unknownKind (f : Frame)
  | identify (tag : Byte)
  | readStatus (tag : Byte)
  | readCorner (tag corner : Byte)
  | readEvents (tag wanted : Byte)
  | setGeometry (tag : Byte) (r : GeometryRecord)
  | setCorner (tag : Byte) (r : CornerRecord)
  | setCurve (tag : Byte) (r : CurveRecord)
  | setRegulation (tag : Byte) (r : RegulationRecord)
  | setSafety (tag : Byte) (r : SafetyRecord)
  | setProfile (tag profile : Byte) (steps : List StepRecord)
  | setDetection (tag : Byte) (r : DetectionRecord)
  | setGuard (tag : Byte) (r : GuardRecord)
  | start (tag : Byte)
  | stop (tag : Byte)
  | halt (tag : Byte)
  | resume (tag : Byte)
  | park (tag : Byte)
  | restart (tag : Byte)
  | demand (tag : Byte) (values : PerCorner Half)
  | driveState (tag direction : Byte) (speed : Quad)
  | injectPreview (tag : Byte) (r : InjectRecord)
  | clearPreview (tag corners : Byte)
  | coilTest (tag corner : Byte)
  | wheelPulse (wheel : Front) (stamp : Stamp)
  | silenceExpiry (wheel : Front)
  | driveStateTimeout
  | scan
  | travelConversion (raw : Count)
  | guardHoldExpiry (corner : Corner)
  | vbatConversion (raw : Count)
  | periodExpiry (corner : Corner) (im : Count)
  | probeTimerExpiry (corner : Corner)
  | applyTime (corner : Corner)
  | recoveryWindowExpiry (corner : Corner)
  | demandTimeout
  | wakingEnd
  | wholeByte (sdi : Byte)
deriving DecidableEq, Repr

end Sys2Proof
end

