-- ==== Sys2Proof/Machine/Arith.lean ====
section
/-! DEFINITION. Times and bounds the spec fixes; the arithmetic and rounding of R1, the signed difference of R2, the check
byte of R169, bytes and codes, and access to the four corners. -/

namespace Sys2Proof

/-- The value at a corner. -/
def PerCorner.get {α : Type} (p : PerCorner α) : Corner → α
  | .fl => p.fl
  | .fr => p.fr
  | .rl => p.rl
  | .rr => p.rr

/-- The same values with another one at a corner. -/
def PerCorner.set {α : Type} (p : PerCorner α) (c : Corner) (a : α) : PerCorner α :=
  match c with
  | .fl => { p with fl := a }
  | .fr => { p with fr := a }
  | .rl => { p with rl := a }
  | .rr => { p with rr := a }

/-- One value at all four corners. -/
def PerCorner.all {α : Type} (a : α) : PerCorner α := ⟨a, a, a, a⟩

/-- A function applied at each corner. -/
def PerCorner.mapIdx {α β : Type} (f : Corner → α → β) (p : PerCorner α) : PerCorner β :=
  ⟨f .fl p.fl, f .fr p.fr, f .rl p.rl, f .rr p.rr⟩

/-- The value at a front corner. -/
def PerFront.get {α : Type} (p : PerFront α) : Front → α
  | .fl => p.fl
  | .fr => p.fr

/-- The same values with another one at a front corner. -/
def PerFront.set {α : Type} (p : PerFront α) (f : Front) (a : α) : PerFront α :=
  match f with
  | .fl => { p with fl := a }
  | .fr => { p with fr := a }

/-- The four corners in the order FL, FR, RL, RR. -/
def Corner.list : List Corner := [.fl, .fr, .rl, .rr]

/-- The other front wheel. -/
def Front.other : Front → Front
  | .fl => .fr
  | .fr => .fl

/-- The corner of a front wheel. -/
def Front.corner : Front → Corner
  | .fl => .fl
  | .fr => .fr

/-- The same-side rear corner: RL for FL, RR for FR (Corners, 00). -/
def Front.rear : Front → Corner
  | .fl => .rl
  | .fr => .rr

/-- The front wheel of a front corner. -/
def Corner.front? : Corner → Option Front
  | .fl => some .fl
  | .fr => some .fr
  | .rl => none
  | .rr => none

/-- Corner codes (R182). -/
def Corner.code : Corner → Byte
  | .fl => 0
  | .fr => 1
  | .rl => 2
  | .rr => 3

/-- The corner a code names; any other code is out of range (R182). -/
def Corner.ofCode (b : Byte) : Option Corner :=
  if b = 0 then some .fl else if b = 1 then some .fr else if b = 2 then some .rl else if b = 3 then some .rr else none

/-- Whether a corner set names a corner: bit 0 FL, bit 1 FR, bit 2 RL, bit 3 RR (R182). -/
def Corner.inSet (c : Corner) (b : Byte) : Bool := b.getLsbD c.code.toNat

/-- A yes or no field (R182): 1 or 0, any other value is out of range. -/
def flagOfCode (b : Byte) : Option Bool :=
  if b = 0 then some false else if b = 1 then some true else none

namespace Machine

/-- Start timer, 12 ms (R152), in µs. -/
def startTime : Nat := 12000
/-- Wake timer, 2 ms (R164). -/
def wakeTime : Nat := 2000
/-- Silence timer, 250 ms (R7). -/
def silenceTime : Nat := 250000
/-- DriveState timer, 500 ms (R14). -/
def driveStateTime : Nat := 500000
/-- Scan timer, 1 ms (R20). -/
def scanTime : Nat := 1000
/-- Regulation period, 500 µs (R102). -/
def periodTime : Nat := 500
/-- The wait of the pending slot under FixedLatency, 2000 µs (R119). -/
def latencyTime : Nat := 2000
/-- Recovery window, 10 s (R137). -/
def recoveryTime : Nat := 10000000
/-- The glitch filter, 50 µs (R3). -/
def glitchTime : Nat := 50
/-- The greatest speed, 80,000 mm/s (R8, R14). -/
def maxSpeed : Nat := 80000
/-- The duty of a test excitation (R138). -/
def testDuty : Nat := 160
/-- R_est at a reset, in mΩ (R142). -/
def resetREst : Nat := 4000

/-- Rounding half up of a non-negative quotient (R1). -/
def roundHalfUp (a b : Nat) : Nat := (2 * a + b) / (2 * b)

/-- Rounding half away from zero of a signed quotient (R1). -/
def roundHalfAway (a : Int) (b : Nat) : Int :=
  if 0 ≤ a then (roundHalfUp a.natAbs b : Int) else -(roundHalfUp a.natAbs b : Int)

/-- Rounding toward zero (R1). -/
def towardZero (a : Int) (b : Nat) : Int := Int.tdiv a (b : Int)

/-- "Clamped to lo..hi" (R1). -/
def clamp (lo hi x : Int) : Int := if x < lo then lo else if hi < x then hi else x

/-- signed(b − a): positive when b lies ahead of a (R2). -/
def signedDiff (a b : Odo) : Int := (b - a).toInt

/-- A value as a two-byte field, clamped to 65,535 (10.11). -/
def value16 (n : Nat) : Half := BitVec.ofNat 16 (min n 65535)

/-- A two-byte field, most significant byte first (R182). -/
def bytes2 (h : Half) : List Byte := [h.extractLsb' 8 8, h.extractLsb' 0 8]

/-- A four-byte field, most significant byte first (R182). -/
def bytes4 (q : Quad) : List Byte :=
  [q.extractLsb' 24 8, q.extractLsb' 16 8, q.extractLsb' 8 8, q.extractLsb' 0 8]

/-- A yes or no byte (R182). -/
def flagByte (b : Bool) : Byte := if b then 1 else 0

/-- A number as a byte. -/
def byteOf (n : Nat) : Byte := BitVec.ofNat 8 n

/-- A two-byte field that may be absent: all ones (R182). -/
def optBytes2 (o : Option Nat) : List Byte :=
  match o with
  | some n => bytes2 (value16 n)
  | none => [0xFF, 0xFF]

/-- One bit of the check byte's register: shift left, and exclusive-or with 0x1D when the bit shifted out was 1 (R169). -/
def crcBit (r : Byte) : Byte := if r.msb then (r <<< 1) ^^^ 0x1D else r <<< 1

/-- One byte taken into the check byte's register (R169). -/
def crcByte (r b : Byte) : Byte :=
  crcBit (crcBit (crcBit (crcBit (crcBit (crcBit (crcBit (crcBit (r ^^^ b))))))))

/-- The check byte over a list of bytes, the register starting at 0xFF (R169). -/
def crc8 (bs : List Byte) : Byte := bs.foldl crcByte 0xFF

end Machine

end Sys2Proof
end

