-- ==== Sys2Proof/Decode.lean ====
section
/-! DEFINITION. The table gives no row any bits, so no word spells a command (`decodeTableWord`). Beside it stand the
record layouts of the link (10.11): the kind table, the payload of each request as bytes, and its reading. -/

namespace Sys2Proof

/-- The command a word spells by the table's bits. Every row of spec/opcode_table.json has an empty "fields" and no
"fixed": no row gives bits, so no word spells a command. -/
def decodeTableWord (_nbits _w : Nat) : Option Instr := none

namespace Request

/-- The code of a request in the kind table (10.11). -/
def kind : Request → Byte
  | .identify => 0x01
  | .readStatus => 0x02
  | .readCorner _ => 0x03
  | .readEvents _ => 0x04
  | .setGeometry _ => 0x10
  | .setCorner _ => 0x11
  | .setCurve _ => 0x12
  | .setRegulation _ => 0x13
  | .setSafety _ => 0x14
  | .setProfile _ _ => 0x20
  | .setDetection _ => 0x21
  | .setGuard _ => 0x22
  | .start => 0x30
  | .stop => 0x31
  | .halt => 0x32
  | .resume => 0x33
  | .park => 0x34
  | .restart => 0x35
  | .demand _ => 0x40
  | .driveState _ _ => 0x41
  | .injectPreview _ => 0x42
  | .clearPreview _ => 0x43
  | .coilTest _ => 0x44

end Request

namespace Link

/-- The payload lengths the kind table allows for a kind; none for a Kind that is no request code (10.11, R175). -/
def lengths (kind : Byte) : Option (List Nat) :=
  match kind.toNat with
  | 0x01 => some [0]
  | 0x02 => some [0]
  | 0x03 => some [1]
  | 0x04 => some [1]
  | 0x10 => some [10]
  | 0x11 => some [6]
  | 0x12 => some [23]
  | 0x13 => some [11]
  | 0x14 => some [12]
  | 0x20 => some [6, 11, 16, 21, 26, 31]
  | 0x21 => some [22]
  | 0x22 => some [10]
  | 0x30 => some [0]
  | 0x31 => some [0]
  | 0x32 => some [0]
  | 0x33 => some [0]
  | 0x34 => some [0]
  | 0x35 => some [0]
  | 0x40 => some [8]
  | 0x41 => some [5]
  | 0x42 => some [6]
  | 0x43 => some [1]
  | 0x44 => some [1]
  | _ => none

/-- Byte i of a payload. -/
def field1 (p : List Byte) (i : Nat) : Byte := p.getD i 0

/-- The two-byte field at byte i, most significant byte first (R182). -/
def field2 (p : List Byte) (i : Nat) : Half := field1 p i ++ field1 p (i + 1)

/-- The four-byte field at byte i, most significant byte first (R182). -/
def field4 (p : List Byte) (i : Nat) : Quad := field2 p i ++ field2 p (i + 2)

/-- The steps of a SetProfile payload, five bytes each (10.11). -/
def readSteps : List Byte → List StepRecord
  | d1 :: d2 :: m :: l1 :: l2 :: rest => ⟨d1 ++ d2, m, l1 ++ l2⟩ :: readSteps rest
  | _ => []

/-- The request a payload of allowed length carries (10.11). -/
def readRequest (kind : Byte) (p : List Byte) : Option Request :=
  match kind.toNat with
  | 0x01 => some .identify
  | 0x02 => some .readStatus
  | 0x03 => some (.readCorner (field1 p 0))
  | 0x04 => some (.readEvents (field1 p 0))
  | 0x10 => some (.setGeometry ⟨field2 p 0, field2 p 2, field1 p 4, field1 p 5, field2 p 6, field2 p 8⟩)
  | 0x11 => some (.setCorner ⟨field1 p 0, field1 p 1, field2 p 2, field1 p 4, field1 p 5⟩)
  | 0x12 => some (.setCurve ⟨field1 p 0, #v[field2 p 1, field2 p 3, field2 p 5, field2 p 7, field2 p 9, field2 p 11,
      field2 p 13, field2 p 15, field2 p 17, field2 p 19, field2 p 21]⟩)
  | 0x13 => some (.setRegulation ⟨field1 p 0, field2 p 1, field1 p 3, field1 p 4, field2 p 5, field1 p 7, field2 p 8,
      field1 p 10⟩)
  | 0x14 => some (.setSafety ⟨field2 p 0, field2 p 2, ⟨field2 p 4, field2 p 6, field2 p 8, field2 p 10⟩⟩)
  | 0x20 => some (.setProfile (field1 p 0) (readSteps p.tail))
  | 0x21 => some (.setDetection ⟨field2 p 0, field2 p 2, field2 p 4, field2 p 6, field2 p 8, field2 p 10, field2 p 12,
      field2 p 14, field1 p 16, field1 p 17, field1 p 18, field1 p 19, field1 p 20, field1 p 21⟩)
  | 0x22 => some (.setGuard ⟨field1 p 0, field2 p 1, field2 p 3, field2 p 5, field2 p 7, field1 p 9⟩)
  | 0x30 => some .start
  | 0x31 => some .stop
  | 0x32 => some .halt
  | 0x33 => some .resume
  | 0x34 => some .park
  | 0x35 => some .restart
  | 0x40 => some (.demand ⟨field2 p 0, field2 p 2, field2 p 4, field2 p 6⟩)
  | 0x41 => some (.driveState (field1 p 0) (field4 p 1))
  | 0x42 => some (.injectPreview ⟨field1 p 0, field2 p 1, field1 p 3, field1 p 4, field1 p 5⟩)
  | 0x43 => some (.clearPreview (field1 p 0))
  | 0x44 => some (.coilTest (field1 p 0))
  | _ => none

end Link

namespace Request

/-- One step of the SetProfile payload as bytes (10.11). -/
def stepBytes (st : StepRecord) : List Byte := Machine.bytes2 st.demand ++ [st.mode] ++ Machine.bytes2 st.length

/-- The payload of a request as bytes, fields in the order of the kind table (10.11). -/
def payload : Request → List Byte
  | .readCorner c => [c]
  | .readEvents n => [n]
  | .setGeometry r => Machine.bytes2 r.wheelbase ++ Machine.bytes2 r.circumference ++ [r.teeth, r.leadTime] ++
      Machine.bytes2 r.mergeDistance ++ Machine.bytes2 r.previewMinSpeed
  | .setCorner r => [r.corner, r.enabled] ++ Machine.bytes2 r.travelZero ++ [r.travelScale, r.invert]
  | .setCurve r => r.corner :: r.points.toList.flatMap Machine.bytes2
  | .setRegulation r => [r.fixedLatency] ++ Machine.bytes2 r.probeInterval ++ [r.probeCorners, r.ki] ++
      Machine.bytes2 r.kickStep ++ [r.kickTime] ++ Machine.bytes2 r.quenchStep ++ [r.quenchTime]
  | .setSafety r => Machine.bytes2 r.demandTimeout ++ Machine.bytes2 r.failsafeDemand ++
      Machine.bytes2 r.defaultDemand.fl ++ Machine.bytes2 r.defaultDemand.fr ++ Machine.bytes2 r.defaultDemand.rl ++
      Machine.bytes2 r.defaultDemand.rr
  | .setProfile p steps => p :: steps.flatMap stepBytes
  | .setDetection r => Machine.bytes2 r.tc1 ++ Machine.bytes2 r.tc2 ++ Machine.bytes2 r.tc3 ++ Machine.bytes2 r.tr1 ++
      Machine.bytes2 r.tr2 ++ Machine.bytes2 r.tr3 ++ Machine.bytes2 r.hysteresis ++ Machine.bytes2 r.windowMax ++
      [r.mapC1, r.mapC2, r.mapC3, r.mapR1, r.mapR2, r.mapR3]
  | .setGuard r => [r.corner] ++ Machine.bytes2 r.bumpBand ++ Machine.bytes2 r.reboundBand ++
      Machine.bytes2 r.guardVel ++ Machine.bytes2 r.guardDemand ++ [r.guardHold]
  | .demand v => Machine.bytes2 v.fl ++ Machine.bytes2 v.fr ++ Machine.bytes2 v.rl ++ Machine.bytes2 v.rr
  | .driveState d v => d :: Machine.bytes4 v
  | .injectPreview r => [r.corners] ++ Machine.bytes2 r.distance ++ [r.cls, r.direction, r.profile]
  | .clearPreview c => [c]
  | .coilTest c => [c]
  | .identify => []
  | .readStatus => []
  | .start => []
  | .stop => []
  | .halt => []
  | .resume => []
  | .park => []
  | .restart => []

/-- Whether the payload's length is one the kind table allows: only SetProfile can fail, by its number of steps (R59). -/
def lengthAllowed : Request → Bool
  | .setProfile _ steps => 1 ≤ steps.length && steps.length ≤ 6
  | _ => true

end Request

/-- The bytes a frame's check byte covers: Kind, Tag, Length and the payload read (R169). -/
def Frame.covered (f : Frame) : List Byte := f.kind :: f.tag :: f.length :: f.payload

/-- A frame as the link assembles it: a Length above 48 has no payload read (R167). -/
def Frame.make (kind tag length : Byte) (payload : List Byte) (check : Byte) : Frame :=
  ⟨kind, tag, length, if 48 < length.toNat then [] else payload, check⟩

/-- The frame of a request with a sound check byte (section 10.2, R169). -/
def Request.frame (tag : Byte) (r : Request) : Frame :=
  let f := Frame.make r.kind tag (Machine.byteOf r.payload.length) r.payload 0
  { f with check := Machine.crc8 f.covered }

end Sys2Proof
end

