-- ==== Sys2Proof/Machine/Blocks.lean ====
section
/-! DEFINITION. The blocks' state (the state tables of the chapters), and the values a reset gives each block. A timer is
held as the time in µs at which it expires, none while it is stopped (log 2). -/

namespace Sys2Proof.Machine

/-- The part state (R150). -/
inductive PartState where
  | starting | configuring | running | failsafe | parked | waking
deriving DecidableEq, Repr

/-- The Failsafe cause, absent for none (09). -/
inductive FailCause where
  | demandTimeout | halt
deriving DecidableEq, Repr

/-- The cause a StateChanged record carries (R150). -/
inductive Cause where
  | startingEnd | start | stop | halt | demandTimeout | resume | park | wake | wakingEnd
deriving DecidableEq, Repr

/-- Reply statuses (10.11). -/
inductive Status where
  | ok | clamped | wrongState | notReady | badLength | badValue | badCurve | incomplete | busy | noDemand
  | notStandstill | badCheck | unknownKind | previewInactive | lowCurrent | latched | cancelled | disabled
deriving DecidableEq, Repr

/-- Event record kinds (10.11). -/
inductive EventKind where
  | stateChanged | impactDetected | previewDropped | guardEngaged | coilOpen | coilShort | coilResistance | coilLatched
  | coilRecovered | supplyLow | supplyNormal | supplyHold | sensorFault | sensorRecovered | wheelInputFault
  | wheelInputRestored | distanceLost | distanceRestored | requestOverrun | frameAborted | replyTruncated
deriving DecidableEq, Repr

/-- An event record (R178): Kind, Corner or none, the two codes of Detail, Value, Repeat. -/
structure Event where
  kind : EventKind
  corner : Option Corner
  detail1 : Byte
  detail2 : Byte
  value : Half
  count : Nat
deriving DecidableEq, Repr

/-- A reply as it is placed (R171, R183); its check byte is the CRC of the other fields (R169). -/
structure Reply where
  kind : Byte
  tag : Byte
  status : Status
  summary : Byte
  payload : List Byte
deriving DecidableEq, Repr

/-- The state controller (09). -/
structure Control where
  part : PartState
  cause : Option FailCause
  startTimer : Option Nat
  wakeTimer : Option Nat
  demandTimer : Option Nat
  demandTimeout : Nat
  failsafeDemand : Nat
  defaultDemand : PerCorner Nat
deriving DecidableEq, Repr

/-- The state controller after a reset, its start timer begun at `now` (R152, R157). -/
def Control.reset (now : Nat) : Control :=
  { part := .starting, cause := none, startTimer := some (now + startTime), wakeTimer := none, demandTimer := none,
    demandTimeout := 100, failsafeDemand := 600, defaultDemand := PerCorner.all 500 }

/-- Wheel states (01). -/
inductive WheelState where
  | valid | silent | faulted
deriving DecidableEq, Repr

/-- One front wheel of the distance unit (01). -/
structure Wheel where
  lastEdge : Option Stamp
  period : Option Nat
  state : WheelState
  speed : Nat
  cross : Nat
  restore : Nat
  silence : Option Nat
deriving DecidableEq, Repr

/-- A wheel after a reset (R18). -/
def Wheel.reset (now : Nat) : Wheel :=
  { lastEdge := none, period := none, state := .valid, speed := 0, cross := 0, restore := 0,
    silence := some (now + silenceTime) }

/-- Direction of the vehicle (R14, R15). -/
inductive Travel where
  | forward | reverse | neutral | unknown
deriving DecidableEq, Repr

/-- The three geometry fields that have no value while the geometry is unwritten (R4). -/
structure Ring where
  wheelbase : Nat
  circumference : Nat
  teeth : Nat
deriving DecidableEq, Repr

/-- The distance unit (01). -/
structure Distance where
  wheel : PerFront Wheel
  odometer : Odo
  fraction : Nat
  speed : Nat
  ring : Option Ring
  leadTime : Nat
  mergeDistance : Nat
  previewMinSpeed : Nat
  direction : Travel
  referenceSpeed : Nat
  lost : Bool
  driveTimer : Option Nat
deriving DecidableEq, Repr

/-- The distance unit after a reset (R4, R18). -/
def Distance.reset (now : Nat) : Distance :=
  { wheel := ⟨Wheel.reset now, Wheel.reset now⟩, odometer := 0, fraction := 0, speed := 0, ring := none, leadTime := 15,
    mergeDistance := 150, previewMinSpeed := 2500, direction := .unknown, referenceSpeed := 0, lost := false,
    driveTimer := none }

/-- The scan position (R20): idle, a travel channel, or VBAT. -/
inductive ScanPos where
  | idle
  | travel (c : Corner)
  | vbat
deriving DecidableEq, Repr

/-- The travel converter (02). -/
structure Converter where
  timer : Option Nat
  pos : ScanPos
deriving DecidableEq, Repr

/-- The converter after a reset (R31). -/
def Converter.reset (now : Nat) : Converter := { timer := some (now + scanTime), pos := .idle }

/-- One corner's sensing block (02): `scale` holds TravelZero and TravelScale, absent while the setup is unwritten. -/
structure Sensing where
  enabled : Bool
  invert : Bool
  scale : Option (Nat × Nat)
  faulted : Bool
  bad : Nat
  good : Nat
  history : List Int
deriving DecidableEq, Repr

/-- A sensing block after a reset (R23, R31). -/
def Sensing.reset : Sensing :=
  { enabled := false, invert := false, scale := none, faulted := false, bad := 0, good := 0, history := [] }

/-- Direction of an impact, of a window, of an entry and of an engaged guard. -/
inductive Dir where
  | compression | rebound
deriving DecidableEq, Repr

/-- The detection settings (R33). -/
structure Detection where
  tc1 : Nat
  tc2 : Nat
  tc3 : Nat
  tr1 : Nat
  tr2 : Nat
  tr3 : Nat
  hysteresis : Nat
  windowMax : Nat
  mapC1 : Option Nat
  mapC2 : Option Nat
  mapC3 : Option Nat
  mapR1 : Option Nat
  mapR2 : Option Nat
  mapR3 : Option Nat
deriving DecidableEq, Repr

/-- The detection settings after a reset (R33). -/
def Detection.reset : Detection :=
  { tc1 := 600, tc2 := 1200, tc3 := 2000, tr1 := 500, tr2 := 1000, tr3 := 1800, hysteresis := 100, windowMax := 300,
    mapC1 := none, mapC2 := none, mapC3 := none, mapR1 := none, mapR2 := none, mapR3 := none }

/-- An open detection window (03); a detector without one is Closed. -/
structure Window where
  dir : Dir
  peak : Nat
  opening : Odo
deriving DecidableEq, Repr

/-- Origin of a preview entry (R43). -/
inductive Origin where
  | detected | injected
deriving DecidableEq, Repr

/-- A preview entry (R43). -/
structure Entry where
  id : Byte
  arrival : Odo
  cls : Nat
  dir : Dir
  profile : Nat
  origin : Origin
  source : Option Front
deriving DecidableEq, Repr

/-- Step modes (R58). -/
inductive StepMode where
  | set | floor
deriving DecidableEq, Repr

/-- A profile step (R58). -/
structure ProfileStep where
  demand : Nat
  mode : StepMode
  length : Nat
deriving DecidableEq, Repr

/-- The preview block and the profile table: the state of chapters 3 and 4 held once for the part. -/
structure Preview where
  detection : Detection
  nextId : Byte
  active : Bool
  profiles : Vector (Option (List ProfileStep)) 8
deriving DecidableEq, Repr

/-- The preview block and the profile table after a reset (R33, R57, R58). -/
def Preview.reset : Preview :=
  { detection := Detection.reset, nextId := 0, active := false, profiles := Vector.replicate 8 none }

/-- A Running preview context (R61); a runner without one is Empty. -/
structure Context where
  profile : Nat
  steps : List ProfileStep
  index : Nat
  start : Odo
  cls : Nat
  id : Byte
  dir : Dir
  origin : Origin
  source : Option Front
deriving DecidableEq, Repr

/-- The arbiter's levels 0 to 3 (5.1). -/
inductive Level where
  | chassis | preview | guard | failsafe
deriving DecidableEq, Repr

/-- The active preview form: a step's Demand and Mode (R69). -/
structure StepForm where
  demand : Nat
  mode : StepMode
deriving DecidableEq, Repr

/-- A demand arbiter (05). A form is absent while inactive. -/
structure Arbiter where
  active : Bool
  stored : Option Nat
  preview : Option StepForm
  guard : Option Nat
  failsafe : Option Nat
  level : Option Level
  resolved : Option Nat
deriving DecidableEq, Repr

/-- An arbiter after a reset, and after Stop and Park (R80). -/
def Arbiter.reset : Arbiter :=
  { active := false, stored := none, preview := none, guard := none, failsafe := none, level := none, resolved := none }

/-- An end-stop guard (R81, 05): `engaged` is the engaged direction, absent while Released. -/
structure Guard where
  bumpBand : Nat
  reboundBand : Nat
  guardVel : Nat
  guardDemand : Nat
  guardHold : Nat
  engaged : Option Dir
  timer : Option Nat
deriving DecidableEq, Repr

/-- A guard after a reset (R81, R86). -/
def Guard.reset : Guard :=
  { bumpBand := 0, reboundBand := 0, guardVel := 0, guardDemand := 1000, guardHold := 30, engaged := none, timer := none }

/-- A current mapper (06). -/
structure Mapper where
  curve : Option (Vector Nat 11)
  last : Option Nat
deriving DecidableEq, Repr

/-- A mapper after a reset (R90, R97). -/
def Mapper.reset : Mapper := { curve := none, last := none }

/-- The regulation settings (R104). -/
structure Regulation where
  fixedLatency : Bool
  probeInterval : Nat
  probeCorners : PerCorner Bool
  ki : Nat
  kickStep : Nat
  kickTime : Nat
  quenchStep : Nat
  quenchTime : Nat
deriving DecidableEq, Repr

/-- The regulation settings after a reset (R104). -/
def Regulation.reset : Regulation :=
  { fixedLatency := false, probeInterval := 100, probeCorners := PerCorner.all true, ki := 64, kickStep := 300,
    kickTime := 6, quenchStep := 300, quenchTime := 6 }

/-- The mode a test excitation returns to (R138). -/
inductive ReturnMode where
  | off | faulted
deriving DecidableEq, Repr

/-- Regulator modes (R103), each with the counts that are present in it. -/
inductive Mode where
  | off
  | regulating
  | kick (count : Nat)
  | quench (count : Nat)
  | probe (count sum : Nat)
  | hold
  | test (count sum : Nat) (ret : ReturnMode)
  | faulted
deriving DecidableEq, Repr

/-- Fault kinds (08). -/
inductive FaultKind where
  | coilOpen | coilShort | coilResistance
deriving DecidableEq, Repr

/-- The pending slot's target; its apply time is absent with FixedLatency off, and once it has been reached (R118 to
R120). -/
structure Pending where
  target : Nat
  applyAt : Option Nat
deriving DecidableEq, Repr

/-- A coil regulator with its supervision state (07, 08). -/
structure Regulator where
  mode : Mode
  period : Option Nat
  target : Option Nat
  slot : Option Pending
  duty : Nat
  trim : Int
  rEst : Nat
  lastIm : Nat
  probeTimer : Option Nat
  probeDue : Bool
  testWaiting : Bool
  fault : Option FaultKind
  openCount : Nat
  latched : Bool
  recovery : Option Nat
deriving DecidableEq, Repr

/-- A regulator after a reset, its self-test begun (R131, R142). -/
def Regulator.reset (now : Nat) : Regulator :=
  { mode := .test 0 0 .off, period := some (now + periodTime), target := none, slot := none, duty := testDuty, trim := 0,
    rEst := resetREst, lastIm := 0, probeTimer := none, probeDue := false, testWaiting := false, fault := none,
    openCount := 0, latched := false, recovery := none }

/-- Supply bands (R144). -/
inductive Band where
  | normal | low | hold
deriving DecidableEq, Repr

/-- The supply monitor (08). -/
structure Supply where
  vbat : Option Nat
  band : Band
deriving DecidableEq, Repr

/-- The supply monitor after a reset (R145). -/
def Supply.reset : Supply := { vbat := none, band := .normal }

/-- Frame assembly (R167). -/
inductive Assembly where
  | idle | header | payload | check | padding | ignoring
deriving DecidableEq, Repr

/-- What an open transaction shifts out (R172): a reply, the filler frame with its Summary, or the zeros of a transaction
that a Restart made void (R153). -/
inductive Outbound where
  | reply (r : Reply)
  | filler (summary : Byte)
  | void
deriving DecidableEq, Repr

/-- The link interface and the request processor (10). `outbound` is absent while no transaction is open; `received` holds
the bytes of the frame under assembly; `sent` counts the bytes shifted out; `sdo` is the byte SDO is sending, absent at high
impedance; `inflight` holds each corner's CoilTest Tag. -/
structure LinkState where
  selnLow : Bool
  sdo : Option Byte
  outbound : Option Outbound
  sent : Nat
  assembly : Assembly
  received : List Byte
  inbound : List Frame
  replies : List Reply
  reservations : Nat
  events : List Event
  overflow : Bool
  atn : Bool
  inflight : PerCorner (Option Byte)
deriving DecidableEq, Repr

/-- The link after a reset; the level of SELN is an input and is kept (R166). -/
def LinkState.reset (selnLow : Bool) : LinkState :=
  { selnLow := selnLow, sdo := none, outbound := none, sent := 0, assembly := .idle, received := [], inbound := [],
    replies := [], reservations := 0, events := [], overflow := false, atn := false, inflight := PerCorner.all none }

end Sys2Proof.Machine
end

