-- ==== Sys2Proof/Machine/State.lean ====
section
/-! DEFINITION. The state of the part: the blocks of Machine/Blocks.lean, the model's own clock and choice counter, and the
queue of waiting commands; the reasons a step can stop; the state after reset. -/

namespace Sys2Proof.Machine

/-- The state of the part. `now` is the time in µs, whose low 32 bits are the 1 MHz time base (log 2); `choices` counts the
free values used (log 5); `pending` is the queue of commands; `resetLow` says that RESETN is held low (R152). -/
structure State where
  now : Nat
  choices : Nat
  pending : List Instr
  resetLow : Bool
  control : Control
  dist : Distance
  conv : Converter
  sensing : PerCorner Sensing
  preview : Preview
  window : PerFront (Option Window)
  queue : PerCorner (List Entry)
  context : PerCorner (Option Context)
  arbiter : PerCorner Arbiter
  guard : PerCorner Guard
  mapper : PerCorner Mapper
  regulation : Regulation
  reg : PerCorner Regulator
  supply : Supply
  link : LinkState
deriving DecidableEq, Repr

/-- A fault stops the machine. The spec describes none: a coil fault, a sensor fault and a supply hold are effects on the
state. So there is no constructor, nobody raises one, and every command answers a next state. -/
inductive Fault where
deriving DecidableEq, Repr

/-- A refusal: no meaning for the command. -/
inductive Refusal where
  /-- Raised by an arm of exec whose row has no meaning yet. Safe: the machine stops. No arm raises it. -/
  | notModelled (mnemonic : String)
deriving DecidableEq, Repr

/-- The part right after a reset that ends at `now`, with the model's own fields and the level of SELN given (R18, R31, R42,
R57, R71, R80, R86, R101, R131, R142, R145, R152, R166). -/
def State.resetAt (now choices : Nat) (pending : List Instr) (selnLow : Bool) : State :=
  { now := now, choices := choices, pending := pending, resetLow := false,
    control := Control.reset now,
    dist := Distance.reset now,
    conv := Converter.reset now,
    sensing := PerCorner.all Sensing.reset,
    preview := Preview.reset,
    window := ⟨none, none⟩,
    queue := PerCorner.all [],
    context := PerCorner.all none,
    arbiter := PerCorner.all Arbiter.reset,
    guard := PerCorner.all Guard.reset,
    mapper := PerCorner.all Mapper.reset,
    regulation := Regulation.reset,
    reg := PerCorner.all (Regulator.reset now),
    supply := Supply.reset,
    link := LinkState.reset selnLow }

/-- The machine right after reset: Starting has begun (R152), SELN is high (log 11), the queue of commands is empty. -/
def State.reset : State := State.resetAt 0 0 [] false

end Sys2Proof.Machine
end

