-- ==== Sys2Proof/Machine/Ops.lean ====
section
/-! DEFINITION. The operations every block shares: one block's state replaced, the clock, the free choices, event records
(R178, R179), replies (R171, R183), a change of the part state (R150). -/

namespace Sys2Proof.Machine

namespace State

/-- The state with one corner's sensing block replaced. -/
def setSensing (s : State) (c : Corner) (x : Sensing) : State := { s with sensing := s.sensing.set c x }

/-- The state with one detector's window replaced. -/
def setWindow (s : State) (f : Front) (x : Option Window) : State := { s with window := s.window.set f x }

/-- The state with one corner's preview queue replaced. -/
def setQueue (s : State) (c : Corner) (x : List Entry) : State := { s with queue := s.queue.set c x }

/-- The state with one corner's preview context replaced. -/
def setContext (s : State) (c : Corner) (x : Option Context) : State := { s with context := s.context.set c x }

/-- The state with one corner's arbiter replaced. -/
def setArbiter (s : State) (c : Corner) (x : Arbiter) : State := { s with arbiter := s.arbiter.set c x }

/-- The state with one corner's guard replaced. -/
def setGuard (s : State) (c : Corner) (x : Guard) : State := { s with guard := s.guard.set c x }

/-- The state with one corner's mapper replaced. -/
def setMapper (s : State) (c : Corner) (x : Mapper) : State := { s with mapper := s.mapper.set c x }

/-- The state with one corner's regulator replaced. -/
def setReg (s : State) (c : Corner) (x : Regulator) : State := { s with reg := s.reg.set c x }

/-- The state with the link replaced. -/
def setLink (s : State) (x : LinkState) : State := { s with link := x }

/-- The state with the distance unit replaced. -/
def setDist (s : State) (x : Distance) : State := { s with dist := x }

/-- The state with the state controller replaced. -/
def setControl (s : State) (x : Control) : State := { s with control := x }

/-- The state with the preview block and profile table replaced. -/
def setPreview (s : State) (x : Preview) : State := { s with preview := x }

/-- The state with the converter replaced. -/
def setConv (s : State) (x : Converter) : State := { s with conv := x }

/-- The state with the supply monitor replaced. -/
def setSupply (s : State) (x : Supply) : State := { s with supply := x }

/-- The time is at least `t`: a timer that expires at `t` has expired (log 3). -/
def reachTime (s : State) (t : Nat) : State := { s with now := max s.now t }

/-- `n` free values have been used (log 5). -/
def spend (s : State) (n : Nat) : State := { s with choices := s.choices + n }

/-- The 1 MHz time base: 32 bits, free running (section 1.1). -/
def timeBase (s : State) : Stamp := BitVec.ofNat 32 s.now

/-- Whether the part is in Running or Failsafe, where arbiters may be Active and guards act (R72, R82). -/
def driving (s : State) : Bool := s.control.part = .running || s.control.part = .failsafe

end State

/-- The list in an order drawn from the free choices `n`, `n + 1`, …: any order can come. -/
def freeOrder {α : Type} : Nat → Nat → List α → List α
  | 0, _, _ => []
  | _ + 1, _, [] => []
  | k + 1, n, a :: as =>
    let i := Config.choice n % (as.length + 1)
    (a :: as).getD i a :: freeOrder k (n + 1) ((a :: as).eraseIdx i)

/-- The list in a free order, at a state (log 5). -/
def State.inFreeOrder {α : Type} (s : State) (l : List α) : List α := freeOrder l.length s.choices l

/-- Each element of the list acts once on the state, in a free order (log 5). -/
def forEachFree {α : Type} (l : List α) (f : α → State → State) (s : State) : State :=
  (s.inFreeOrder l).foldl (fun t a => f a t) (s.spend l.length)

/-- The two actions in either order (log 5). -/
def inEitherOrder (f g : State → State) (s : State) : State :=
  if Config.choice s.choices % 2 = 0 then g (f (s.spend 1)) else f (g (s.spend 1))

/-- Part state codes (R182). -/
def PartState.code : PartState → Byte
  | .starting => 0
  | .configuring => 1
  | .running => 2
  | .failsafe => 3
  | .parked => 4
  | .waking => 5

/-- StateChanged cause codes (10.11). -/
def Cause.code : Cause → Byte
  | .startingEnd => 0
  | .start => 1
  | .stop => 2
  | .halt => 3
  | .demandTimeout => 4
  | .resume => 5
  | .park => 6
  | .wake => 7
  | .wakingEnd => 8

/-- Failsafe cause codes (R182). -/
def failCauseCode : Option FailCause → Byte
  | none => 0
  | some .demandTimeout => 1
  | some .halt => 2

/-- Status codes (10.11). -/
def Status.code : Status → Byte
  | .ok => 0x00
  | .clamped => 0x01
  | .wrongState => 0x02
  | .notReady => 0x03
  | .badLength => 0x04
  | .badValue => 0x05
  | .badCurve => 0x06
  | .incomplete => 0x07
  | .busy => 0x08
  | .noDemand => 0x09
  | .notStandstill => 0x0A
  | .badCheck => 0x0B
  | .unknownKind => 0x0C
  | .previewInactive => 0x0D
  | .lowCurrent => 0x0E
  | .latched => 0x0F
  | .cancelled => 0x10
  | .disabled => 0x11

/-- Event record kind codes (10.11). -/
def EventKind.code : EventKind → Byte
  | .stateChanged => 0x01
  | .impactDetected => 0x02
  | .previewDropped => 0x03
  | .guardEngaged => 0x04
  | .coilOpen => 0x05
  | .coilShort => 0x06
  | .coilResistance => 0x07
  | .coilLatched => 0x08
  | .coilRecovered => 0x09
  | .supplyLow => 0x0A
  | .supplyNormal => 0x0B
  | .supplyHold => 0x0C
  | .sensorFault => 0x0D
  | .sensorRecovered => 0x0E
  | .wheelInputFault => 0x0F
  | .wheelInputRestored => 0x10
  | .distanceLost => 0x11
  | .distanceRestored => 0x12
  | .requestOverrun => 0x13
  | .frameAborted => 0x14
  | .replyTruncated => 0x15

/-- Vehicle direction codes (R182). -/
def Travel.code : Travel → Byte
  | .forward => 0
  | .reverse => 1
  | .neutral => 2
  | .unknown => 3

/-- Impact direction codes (R182). -/
def Dir.code : Dir → Byte
  | .compression => 0
  | .rebound => 1

/-- The other impact direction. -/
def Dir.opposite : Dir → Dir
  | .compression => .rebound
  | .rebound => .compression

/-- Step mode codes (R182). -/
def StepMode.code : StepMode → Byte
  | .set => 0
  | .floor => 1

/-- Origin codes (R182). -/
def Origin.code : Origin → Byte
  | .detected => 0
  | .injected => 1

/-- Wheel state codes (R182). -/
def WheelState.code : WheelState → Byte
  | .valid => 0
  | .silent => 1
  | .faulted => 2

/-- Regulator mode codes (R182). -/
def Mode.code : Mode → Byte
  | .off => 0
  | .regulating => 1
  | .kick _ => 2
  | .quench _ => 3
  | .probe _ _ => 4
  | .hold => 5
  | .test _ _ _ => 6
  | .faulted => 7

/-- Fault kind codes (R182). -/
def faultCode : Option FaultKind → Byte
  | none => 0
  | some .coilOpen => 1
  | some .coilShort => 2
  | some .coilResistance => 3

/-- Supply band codes (R182). -/
def Band.code : Band → Byte
  | .normal => 0
  | .low => 1
  | .hold => 2

/-- Level numbers (5.1). -/
def Level.code : Level → Byte
  | .chassis => 0
  | .preview => 1
  | .guard => 2
  | .failsafe => 3

/-- A new event record, with Repeat 1 (R178). -/
def event (kind : EventKind) (corner : Option Corner) (d1 d2 : Byte) (value : Nat) : Event :=
  { kind := kind, corner := corner, detail1 := d1, detail2 := d2, value := value16 value, count := 1 }

/-- Whether two records are equal in Kind, Corner and Detail (R178). -/
def Event.same (a b : Event) : Bool :=
  a.kind = b.kind && a.corner = b.corner && a.detail1 = b.detail1 && a.detail2 = b.detail2

/-- The event queue takes a record: combined with the newest, placed at the tail, or dropped with the overflow mark set
(R178); ATN follows (R179). -/
def LinkState.record (e : Event) (l : LinkState) : LinkState :=
  match l.events.getLast? with
  | some n =>
    if e.same n then
      { l with events := l.events.dropLast ++ [{ n with count := min 255 (n.count + 1), value := e.value }] }
    else if l.events.length < 16 then { l with events := l.events ++ [e], atn := true }
    else { l with overflow := true }
  | none => { l with events := [e], atn := true }

/-- A block queues an event record (R178). -/
def queueEvent (e : Event) (s : State) : State := s.setLink (s.link.record e)

/-- The Summary as the part stands (R183). -/
def summary (s : State) : Byte :=
  byteOf ((if s.link.overflow then 128 else 0) + 16 * s.control.part.code.toNat + min 15 s.link.events.length)

/-- A reply placed at the tail of the reply queue, fixed as the part stands (R171, R183). -/
def placeReply (kind tag : Byte) (status : Status) (payload : List Byte) (s : State) : State :=
  s.setLink { s.link with replies := s.link.replies ++ [⟨kind, tag, status, summary s, payload⟩] }

/-- The direct reply to a request: Kind plus 0x80, the Tag as received (R175). -/
def reply (tag kind : Byte) (status : Status) (payload : List Byte) (s : State) : State :=
  placeReply (kind + 0x80) tag status payload s

/-- A refusal with BadValue: the first offending field's number and an index (R176). -/
def refuseValue (tag kind field index : Byte) (s : State) : State := reply tag kind .badValue [field, index] s

/-- The bytes of a reply or filler frame (Frame headers, 10.11), closed by the check byte (R169). -/
def Reply.bytes (r : Reply) : List Byte :=
  let body := [r.kind, r.tag, r.status.code, r.summary, byteOf r.payload.length] ++ r.payload
  body ++ [crc8 body]

/-- The filler frame with its Summary (R172). -/
def fillerFrame (sum : Byte) : Reply := ⟨0x80, 0x00, .ok, sum, []⟩

/-- The bytes of an outbound frame; a void transaction has none, so that zeros go out (R153, R172). -/
def Outbound.bytes : Outbound → List Byte
  | .reply r => r.bytes
  | .filler sum => (fillerFrame sum).bytes
  | .void => []

/-- The sum of replies and reservations (R171). -/
def LinkState.outstanding (l : LinkState) : Nat := l.replies.length + l.reservations

/-- The part state changes: the state and the Failsafe cause take their values and StateChanged is queued with the cause and
the Tag or 0 (R150). -/
def changePart (p : PartState) (fc : Option FailCause) (cause : Cause) (tag : Byte) (s : State) : State :=
  queueEvent (event .stateChanged none p.code cause.code tag.toNat)
    (s.setControl { s.control with part := p, cause := fc })

end Sys2Proof.Machine
end

