-- ==== Sys2Proof/Machine/Coil.lean ====
section
/-! DEFINITION. The coil regulator (chapters 7 and 8): targets, kick and quench, the pending slot, the duty arithmetic, the
fault tests, probes and test excitations, and the answer to a CoilTest. -/

namespace Sys2Proof.Machine

/-! ### Duty arithmetic (7.3) -/

/-- The feed-forward duty (R106): the voltage is clamped to 6000..18,000 mV, the quotient is rounded half up and clamped to
0..1023. -/
def feedForward (target rEst vbat : Nat) : Nat :=
  min 1023 (roundHalfUp (target * rEst * 1024) (1000 * min 18000 (max 6000 vbat)))

/-- clamp(Dff + trim, 0, 1023) (R108). -/
def Regulator.dutyFor (r : Regulator) (target vbat : Nat) : Nat :=
  (clamp 0 1023 (feedForward target r.rEst vbat + r.trim)).toNat

/-- The trim after an expiry in Regulating (R107): skipped in the two cases of anti-windup. -/
def Regulator.trimAfter (r : Regulator) (target im ki : Nat) : Int :=
  let e : Int := (target : Int) - im
  if (r.duty = 1023 ∧ 0 < e) ∨ (r.duty = 0 ∧ e < 0) then r.trim
  else clamp (-256) 255 (r.trim + roundHalfAway (e * ki) 256)

/-- The mean of four Im (R125, R138). -/
def meanOfFour (sum : Nat) : Nat := roundHalfUp sum 4

/-- A measured resistance in mΩ, not clamped (R125, R138). -/
def resistance (duty vbat imp : Nat) : Nat := roundHalfUp (duty * vbat * 1000) (1024 * imp)

/-- Whether R_meas lies outside 800..20,000 mΩ (R135). -/
def outOfWindow (rMeas : Nat) : Bool := rMeas < 800 || 20000 < rMeas

/-- R_est moved one eighth of the way toward R_meas, clamped to 1500..12,000 (R125). -/
def moveEstimate (rEst rMeas : Nat) : Nat :=
  (clamp 1500 12000 ((rEst : Int) + towardZero ((rMeas : Int) - rEst) 8)).toNat

/-! ### Targets, kick and quench (7.4 to 7.6) -/

/-- The kick-or-quench test (R111): the target current becomes `new`, and the step from `old` starts a Kick, starts a Quench,
or leaves Regulating. Entry to Quench returns the open-count to 0 (R134). -/
def kickOrQuench (g : Regulation) (old new : Nat) (r : Regulator) : Regulator :=
  if 0 < g.kickStep ∧ 0 < g.kickTime ∧ (g.kickStep : Int) ≤ (new : Int) - old then
    { r with target := some new, mode := .kick 0, duty := 1023 }
  else if 0 < g.quenchStep ∧ 0 < g.quenchTime ∧ (new : Int) - old ≤ -(g.quenchStep : Int) then
    { r with target := some new, mode := .quench 0, duty := 0, openCount := 0 }
  else { r with target := some new, mode := .regulating }

/-- The target current in force. A regulator in a regulation mode always holds one (R103, log 18). -/
def Regulator.targetNow (r : Regulator) : Nat := r.target.getD 0

/-- A target applied in Kick (R116). -/
def applyInKick (g : Regulation) (new : Nat) (r : Regulator) : Regulator :=
  if r.targetNow ≤ new then { r with target := some new } else kickOrQuench g r.targetNow new r

/-- A target applied in Quench (R117). -/
def applyInQuench (g : Regulation) (new : Nat) (r : Regulator) : Regulator :=
  if new ≤ r.targetNow then { r with target := some new } else kickOrQuench g r.targetNow new r

/-- A target placed in the pending slot (R118, R119): an empty slot takes the apply time given, a full one keeps its own. -/
def placePending (applyAt : Option Nat) (new : Nat) (r : Regulator) : Regulator :=
  match r.slot with
  | none => { r with slot := some ⟨new, applyAt⟩ }
  | some p => { r with slot := some { p with target := new } }

/-- A target handed by the mapper, taken by mode (R110). -/
def takeTarget (g : Regulation) (now new : Nat) (r : Regulator) : Regulator :=
  match r.mode with
  | .off => { r with target := some new }
  | .test _ _ _ => { r with target := some new }
  | .faulted => { r with target := some new }
  | .regulating =>
    if g.fixedLatency then placePending (some (now + latencyTime)) new r else kickOrQuench g r.targetNow new r
  | .kick _ => if g.fixedLatency then placePending (some (now + latencyTime)) new r else applyInKick g new r
  | .quench _ => if g.fixedLatency then placePending (some (now + latencyTime)) new r else applyInQuench g new r
  | .probe _ _ => placePending (if g.fixedLatency then some (now + latencyTime) else none) new r
  | .hold => if g.fixedLatency then placePending (some (now + latencyTime)) new r else { r with target := some new }

/-- The apply time of a pending target is reached (R120). In Probe the target stays in the slot, and no time is kept. -/
def applyPending (g : Regulation) (r : Regulator) : Regulator :=
  match r.slot with
  | none => r
  | some p =>
    match r.mode with
    | .regulating => kickOrQuench g r.targetNow p.target { r with slot := none }
    | .kick _ => applyInKick g p.target { r with slot := none }
    | .quench _ => applyInQuench g p.target { r with slot := none }
    | .probe _ _ => { r with slot := some { p with applyAt := none } }
    | .hold => { r with slot := none, target := some p.target }
    | .off => { r with slot := none, target := some p.target }
    | .test _ _ _ => { r with slot := none, target := some p.target }
    | .faulted => { r with slot := none, target := some p.target }

/-- A pending target becomes the target current and the slot is emptied (R121, R126). -/
def Regulator.takeSlot (r : Regulator) : Regulator :=
  match r.slot with
  | none => r
  | some p => { r with target := some p.target, slot := none }

/-- The probe timer is started at ProbeInterval when the corner is in ProbeCorners (R122). -/
def startProbeTimer (g : Regulation) (c : Corner) (now : Nat) (r : Regulator) : Regulator :=
  if g.probeCorners.get c then { r with probeTimer := some (now + 1000 * g.probeInterval) } else r

/-- The entry with a step from 0 (R113); while the band is Hold the regulator enters Hold in its place (R147). -/
def entryFromZero (g : Regulation) (band : Band) (c : Corner) (now : Nat) (r : Regulator) : Regulator :=
  if band = .hold then { r with mode := .hold, duty := 0, probeTimer := none, probeDue := false, openCount := 0 }
  else kickOrQuench g 0 r.targetNow (startProbeTimer g c now { r with mode := .regulating, probeDue := false })

/-- Start brings a regulator into regulation with trim 0 (R112), or into Hold while the band is Hold (R147). A Faulted
regulator stays Faulted. -/
def startRegulator (g : Regulation) (band : Band) (c : Corner) (now : Nat) (r : Regulator) : Regulator :=
  match r.mode with
  | .faulted => r
  | _ =>
    if band = .hold then
      { r with mode := .hold, duty := 0, trim := 0, slot := none, probeTimer := none, probeDue := false,
               testWaiting := false, openCount := 0 }
    else
      startProbeTimer g c now
        { r with mode := .regulating, duty := 0, trim := 0, slot := none, probeDue := false, testWaiting := false }

/-- The return mode of a test excitation as a mode (R138). -/
def ReturnMode.mode : ReturnMode → Mode
  | .off => .off
  | .faulted => .faulted

/-- A test excitation abandoned: the regulator returns to its return mode with duty 0 (R141). -/
def abandonTest (r : Regulator) : Regulator :=
  match r.mode with
  | .test _ _ ret => { r with mode := ret.mode, duty := 0 }
  | _ => r

/-- Entry to Off at Stop and Park (R130), after any test excitation has been abandoned (R141): a Faulted regulator stays
Faulted, with trim 0 and its target absent. -/
def enterOff (r : Regulator) : Regulator :=
  match (abandonTest r).mode with
  | .faulted =>
    { r with mode := .faulted, duty := 0, trim := 0, target := none, slot := none, testWaiting := false, openCount := 0 }
  | _ =>
    { r with mode := .off, duty := 0, trim := 0, target := none, slot := none, probeTimer := none, probeDue := false,
             testWaiting := false, openCount := 0 }

/-- What becomes of the pending slot at a supply Hold (R126, R146): under FixedLatency a target whose apply time lies ahead
stays in the slot, any other becomes the target current (log 15). -/
def slotAtHold (g : Regulation) (r : Regulator) : Regulator :=
  match r.slot with
  | some p => if g.fixedLatency ∧ p.applyAt.isSome then r else r.takeSlot
  | none => r

/-- The supply band enters Hold (R146): regulators in Regulating, Kick, Quench or Probe enter Hold, a test excitation is
abandoned, the others are left as they are. -/
def enterHold (g : Regulation) (r : Regulator) : Regulator :=
  match r.mode with
  | .off => r
  | .hold => r
  | .faulted => r
  | .test _ _ _ => abandonTest r
  | _ =>
    { slotAtHold g r with mode := .hold, duty := 0, probeTimer := none, probeDue := false, testWaiting := false,
                          openCount := 0 }

/-- The supply band leaves Hold (R147): a regulator in Hold makes its entry with a step from 0. -/
def leaveHold (g : Regulation) (band : Band) (c : Corner) (now : Nat) (r : Regulator) : Regulator :=
  if r.mode = .hold then entryFromZero g band c now r else r

/-! ### Answering a CoilTest (7.8) -/

/-- CoilTest outcomes (R128, R140). -/
inductive TestOutcome where
  | measured | opened | outOfWindow | coilShort
deriving DecidableEq, Repr

/-- CoilTest outcome codes (R182). -/
def TestOutcome.code : TestOutcome → Byte
  | .measured => 0
  | .opened => 1
  | .outOfWindow => 2
  | .coilShort => 3

/-- The outcome that names a fault (R128, R129, R140). -/
def FaultKind.outcome : FaultKind → TestOutcome
  | .coilOpen => .opened
  | .coilShort => .coilShort
  | .coilResistance => .outOfWindow

/-- The CoilTest payload: outcome, Imp, R_meas clamped to 65,534, R_est; absent fields as all ones (10.11). -/
def testPayload (o : TestOutcome) (imp rMeas : Option Nat) (rEst : Nat) : List Byte :=
  [o.code] ++ optBytes2 imp ++ optBytes2 (rMeas.map (min 65534)) ++ bytes2 (value16 rEst)

/-- A corner's CoilTest in flight, if any, is answered: CoilTest waiting and the in-flight slot are cleared and the
reservation becomes the reply (R171, R177). -/
def answerTest (c : Corner) (status : Status) (payload : List Byte) (s : State) : State :=
  match s.link.inflight.get c with
  | none => s
  | some tag =>
    let s := s.setReg c { s.reg.get c with testWaiting := false }
    placeReply 0xC4 tag status payload
      (s.setLink { s.link with inflight := s.link.inflight.set c none, reservations := s.link.reservations - 1 })

/-- A corner's CoilTest in flight, if any, is answered Cancelled (R129, R141). -/
def cancelTest (c : Corner) (s : State) : State := answerTest c .cancelled [] s

/-- Every CoilTest in flight is answered Cancelled; the rules give no order between corners (log 5). -/
def cancelTests (s : State) : State := forEachFree Corner.list cancelTest s

/-! ### Coil faults (8.1) -/

/-- The record kind of a fault (R136). -/
def FaultKind.event : FaultKind → EventKind
  | .coilOpen => .coilOpen
  | .coilShort => .coilShort
  | .coilResistance => .coilResistance

/-- A regulator made Faulted (R136). -/
def Regulator.makeFaulted (k : FaultKind) (r : Regulator) : Regulator :=
  { r.takeSlot with mode := .faulted, duty := 0, fault := some k, probeTimer := none, probeDue := false, openCount := 0 }

/-- Whole ms since the last recovery, 0..9999, from the window's expiry time (R149, log 16). -/
def msSinceRecovery (now expiry : Nat) : Nat := min 9999 ((now - (expiry - recoveryTime)) / 1000)

/-- The latch is judged (R137): inside the recovery window the corner is latched and CoilLatched is queued. -/
def judgeLatch (c : Corner) (k : FaultKind) (s : State) : State :=
  match (s.reg.get c).recovery with
  | none => s
  | some t =>
    queueEvent (event .coilLatched (some c) (faultCode (some k)) 0 (msSinceRecovery s.now t))
      (s.setReg c { s.reg.get c with latched := true })

/-- A fault is found at a corner: Faulted, the fault's record with its detail (Period 0, ProbeEnd 1, TestEnd 2) and value,
then the latch (R136, R137, R149). -/
def raiseFault (c : Corner) (k : FaultKind) (detail : Byte) (value : Nat) (s : State) : State :=
  judgeLatch c k
    (queueEvent (event k.event (some c) detail 0 value) (s.setReg c ((s.reg.get c).makeFaulted k)))

/-- A fault found, after which a CoilTest in flight is answered with its outcome (R128, R129, R136, R140). -/
def faultAndAnswer (c : Corner) (k : FaultKind) (detail : Byte) (value : Nat) (imp rMeas : Option Nat) (s : State) :
    State :=
  let s := raiseFault c k detail value s
  answerTest c .ok (testPayload k.outcome imp rMeas (s.reg.get c).rEst) s

/-! ### Test excitation (8.2) -/

/-- A test excitation starts from Off or Faulted, which it keeps as its return mode (R138). -/
def startTest (r : Regulator) : Regulator :=
  let ret : ReturnMode := match r.mode with
    | .faulted => .faulted
    | .test _ _ ret => ret
    | _ => .off
  { r.takeSlot with mode := .test 0 0 ret, duty := testDuty, probeTimer := none, probeDue := false, openCount := 0 }

/-- A recovered corner goes to Off with trim 0, or, Enabled in Running or Failsafe, enters regulation with a step from 0
(R139). Unless a kick starts, the 160 of the excitation stays until the next expiry: no rule changes it (log 9). -/
def recover (c : Corner) (s : State) : State :=
  let r := s.reg.get c
  if s.driving ∧ (s.sensing.get c).enabled then
    s.setReg c (entryFromZero s.regulation s.supply.band c s.now { r with trim := 0 })
  else s.setReg c { r with mode := .off, duty := 0, trim := 0 }

/-- A test excitation succeeds (R139). -/
def testSucceeds (c : Corner) (ret : ReturnMode) (rMeas : Nat) (s : State) : State :=
  let r := { s.reg.get c with rEst := (clamp 1500 12000 rMeas).toNat }
  match ret with
  | .off => s.setReg c { r with mode := .off, duty := 0, trim := 0 }
  | .faulted =>
    recover c (queueEvent (event .coilRecovered (some c) 0 0 rMeas)
      (s.setReg c { r with fault := none, recovery := some (s.now + recoveryTime) }))

/-- A test excitation ends at its sixteenth expiry (R138, R139, R140). -/
def testEnd (c : Corner) (ret : ReturnMode) (sum vbat : Nat) (s : State) : State :=
  let imp := meanOfFour sum
  let rMeas := resistance testDuty vbat imp
  if imp < 20 then faultAndAnswer c .coilOpen 2 imp (some imp) none s
  else if outOfWindow rMeas then faultAndAnswer c .coilResistance 2 rMeas (some imp) (some rMeas) s
  else
    let s := testSucceeds c ret rMeas s
    answerTest c .ok (testPayload .measured (some imp) (some rMeas) (s.reg.get c).rEst) s

/-- An expiry in Test that finds no CoilShort (R138): counts 13 to 16 are summed, count 16 ends the test. -/
def testExpiry (c : Corner) (count sum : Nat) (ret : ReturnMode) (im vbat : Nat) (s : State) : State :=
  let count' := count + 1
  let sum' := if 13 ≤ count' then sum + im else sum
  if 16 ≤ count' then testEnd c ret sum' vbat s
  else s.setReg c { s.reg.get c with mode := .test count' sum' ret }

/-! ### Probes (7.7) -/

/-- Whether the running probe serves a CoilTest: one is in flight and no longer waiting (R123). -/
def serving (c : Corner) (s : State) : Bool :=
  (s.link.inflight.get c).isSome && !(s.reg.get c).testWaiting

/-- Whether a slot's apply time has been reached, or none is kept (R125). -/
def Pending.ready (now : Nat) (p : Pending) : Bool :=
  match p.applyAt with
  | none => true
  | some t => t ≤ now

/-- Step 3 of R125: a ready pending target is applied by the kick-or-quench test. -/
def applyReady (g : Regulation) (now : Nat) (r : Regulator) : Regulator :=
  match r.slot with
  | some p => if p.ready now then kickOrQuench g r.targetNow p.target { r with slot := none } else r
  | none => r

/-- The duty at the end of a quench or probe: computed, or 0 for a target of 0 (R115, R125). -/
def Regulator.dutyOrZero (r : Regulator) (vbat : Nat) : Nat :=
  if r.targetNow = 0 then 0 else r.dutyFor r.targetNow vbat

/-- A probe that measured a resistance inside the window (R125). -/
def probeMeasured (g : Regulation) (c : Corner) (now rMeas vbat : Nat) (r : Regulator) : Regulator :=
  let r1 := { r with rEst := moveEstimate r.rEst rMeas, mode := .regulating }
  startProbeTimer g c now (applyReady g now { r1 with duty := r1.dutyOrZero vbat })

/-- A probe ends at its fourth expiry (R125, R128). A CoilTest that waited beside a probe that ends in a fault is answered
without a measurement (log 14). -/
def probeEnd (c : Corner) (sum vbat : Nat) (s : State) : State :=
  let r := s.reg.get c
  let imp := meanOfFour sum
  let rMeas := resistance r.duty vbat imp
  let served := serving c s
  if imp < 20 then faultAndAnswer c .coilOpen 1 imp (if served then some imp else none) none s
  else if outOfWindow rMeas then
    faultAndAnswer c .coilResistance 1 rMeas (if served then some imp else none) (if served then some rMeas else none) s
  else
    let s := s.setReg c (probeMeasured s.regulation c s.now rMeas vbat r)
    if served then answerTest c .ok (testPayload .measured (some imp) (some rMeas) (s.reg.get c).rEst) s else s

/-- An expiry in Probe (R124). -/
def probeExpiry (c : Corner) (count sum im vbat : Nat) (s : State) : State :=
  if 4 ≤ count + 1 then probeEnd c (sum + im) vbat s
  else s.setReg c { s.reg.get c with mode := .probe (count + 1) (sum + im) }

/-- A probe starts (R123): the duty just set is frozen, probe due and CoilTest waiting are cleared. -/
def Regulator.startProbe (r : Regulator) : Regulator :=
  { r with mode := .probe 0 0, probeDue := false, testWaiting := false }

/-- Whether a probe starts at this expiry (R123). -/
def Regulator.probeStarts (r : Regulator) : Bool :=
  (r.probeDue || r.testWaiting) && 150 ≤ r.targetNow && r.slot.isNone

/-! ### The regulation period (7.1, 7.3, 7.5, 8.1) -/

/-- The regulation step of R108 and R109: duty and trim. -/
def regulate (ki im vbat : Nat) (r : Regulator) : Regulator :=
  if r.targetNow = 0 then { r with duty := 0 }
  else
    let r1 := { r with trim := r.trimAfter r.targetNow im ki }
    { r1 with duty := r1.dutyFor r1.targetNow vbat }

/-- An expiry in Regulating (R108): the regulation step, a waiting CoilTest below 150 mA answered LowCurrent (R128), then a
probe if one may start (R123). -/
def regulatingExpiry (c : Corner) (im vbat : Nat) (s : State) : State :=
  let r := regulate s.regulation.ki im vbat (s.reg.get c)
  let s := s.setReg c r
  let s := if r.testWaiting ∧ r.targetNow < 150 then
      answerTest c .lowCurrent [] (s.setReg c { r with testWaiting := false }) else s
  let r := s.reg.get c
  if r.probeStarts then s.setReg c r.startProbe else s

/-- An expiry in Kick (R114). -/
def kickExpiry (g : Regulation) (count im vbat : Nat) (r : Regulator) : Regulator :=
  if r.targetNow ≤ im ∨ g.kickTime ≤ count + 1 then
    { r with mode := .regulating, duty := r.dutyFor r.targetNow vbat }
  else { r with mode := .kick (count + 1), duty := 1023 }

/-- An expiry in Quench (R115). -/
def quenchExpiry (g : Regulation) (count im vbat : Nat) (r : Regulator) : Regulator :=
  if im ≤ r.targetNow ∨ g.quenchTime ≤ count + 1 then { r with mode := .regulating, duty := r.dutyOrZero vbat }
  else { r with mode := .quench (count + 1), duty := 0 }

/-- The modes in which the open test is made (R132, R134). -/
def Mode.openJudged : Mode → Bool
  | .regulating => true
  | .kick _ => true
  | .probe _ _ => true
  | _ => false

/-- The open-count after an expiry (R134): judged in Regulating, Kick and Probe only. The duty in force over the period is
the one held at the expiry, also when it changed inside the period (log 28). -/
def Regulator.openAfter (r : Regulator) (im : Nat) : Nat :=
  if r.mode.openJudged && 200 ≤ r.duty && im < 20 then r.openCount + 1 else 0

/-- The expiry goes on by mode (R102). -/
def expiryByMode (c : Corner) (im vbat : Nat) (s : State) : State :=
  let r := s.reg.get c
  match r.mode with
  | .off => s
  | .hold => s
  | .faulted => s
  | .regulating => regulatingExpiry c im vbat s
  | .kick n => s.setReg c (kickExpiry s.regulation n im vbat r)
  | .quench n => s.setReg c (quenchExpiry s.regulation n im vbat r)
  | .probe n sum => probeExpiry c n sum im vbat s
  | .test n sum ret => testExpiry c n sum ret im vbat s

/-- The fault tests of an expiry in their order (R132): the short test in every mode but Faulted, then the open test. A fault
ends the expiry. -/
def judgeExpiry (c : Corner) (im vbat : Nat) (s : State) : State :=
  let r := s.reg.get c
  if r.mode ≠ .faulted ∧ 2500 < im then faultAndAnswer c .coilShort 0 im none none s
  else if 3 ≤ r.openAfter im then faultAndAnswer c .coilOpen 0 im none none s
  else expiryByMode c im vbat (s.setReg c { r with openCount := r.openAfter im })

/-- The latest VBAT the supply monitor holds; a free value while it holds none (log 8). -/
def State.vbatRead (s : State) : Nat :=
  match s.supply.vbat with
  | some v => v
  | none => Config.absentVbat s.choices % 23995

/-- A regulation period expires with its Im (R102). With the period timer stopped no period ends (log 3). -/
def periodExpiry (c : Corner) (im : Count) (s : State) : State :=
  match (s.reg.get c).period with
  | none => s
  | some t =>
    let s := s.reachTime t
    let vbat := s.vbatRead
    let s := if s.supply.vbat.isNone then s.spend 1 else s
    judgeExpiry c im.toNat vbat
      (s.setReg c { s.reg.get c with period := some (t + periodTime), lastIm := im.toNat })

end Sys2Proof.Machine
end

