-- ==== Sys2Proof/Machine/Arbitration.lean ====
section
/-! DEFINITION. The demand arbiter, the current mapper and the end-stop guard (chapters 5 and 6). -/

namespace Sys2Proof.Machine

/-! ### The current mapper (chapter 6) -/

/-- Point Pk of a curve (R90). -/
def curvePoint (curve : Vector Nat 11) (k : Nat) : Int := curve.toList.getD k 0

/-- The target current for a resolved demand (R94). -/
def mapCurrent (curve : Vector Nat 11) (demand : Nat) : Nat :=
  let k := min (demand / 100) 9
  let f := demand - 100 * k
  let delta := curvePoint curve (k + 1) - curvePoint curve k
  (curvePoint curve k + roundHalfAway (delta * f) 100).toNat

/-- The regulator of a corner is handed a target (R110). -/
def handTarget (c : Corner) (target : Nat) (s : State) : State :=
  s.setReg c (takeTarget s.regulation s.now target (s.reg.get c))

/-- The mapper receives a resolved demand: a changed target is handed to the regulator (R96). No demand reaches an unwritten
curve (R98, log 18). -/
def handDemand (c : Corner) (demand : Nat) (s : State) : State :=
  let m := s.mapper.get c
  match m.curve with
  | none => s
  | some curve =>
    let i := mapCurrent curve demand
    if m.last = some i then s else handTarget c i (s.setMapper c { m with last := some i })

/-! ### The demand arbiter (chapter 5) -/

/-- The value of an active preview form: a Set step's Demand, or for a Floor step the greater of it and the stored chassis
demand (R69). -/
def StepForm.value (f : StepForm) (stored : Option Nat) : Nat :=
  match f.mode with
  | .set => f.demand
  | .floor => max f.demand (stored.getD 0)

/-- The highest active level and its value (R73, the table of 5.1). -/
def Arbiter.winner (a : Arbiter) : Level × Option Nat :=
  match a.failsafe with
  | some d => (.failsafe, some d)
  | none =>
    match a.guard with
    | some d => (.guard, some d)
    | none =>
      match a.preview with
      | some f => (.preview, some (f.value a.stored))
      | none => (.chassis, a.stored)

/-- An Active arbiter resolves; a changed resolved demand is handed to the mapper (R73). An Idle arbiter resolves nothing
(R72). -/
def resolve (c : Corner) (s : State) : State :=
  let a := s.arbiter.get c
  if a.active then
    let w := a.winner
    let s1 := s.setArbiter c { a with level := some w.1, resolved := w.2 }
    match w.2 with
    | some d => if a.resolved = some d then s1 else handDemand c d s1
    | none => s1
  else s

/-- The runner hands the preview form (R69). -/
def handPreview (c : Corner) (f : Option StepForm) (s : State) : State :=
  resolve c (s.setArbiter c { s.arbiter.get c with preview := f })

/-- The guard hands the guard form (R83, R84, R85). -/
def handGuard (c : Corner) (f : Option Nat) (s : State) : State :=
  resolve c (s.setArbiter c { s.arbiter.get c with guard := f })

/-- The state controller hands the failsafe form to an Active arbiter (R78, R79). -/
def handFailsafe (c : Corner) (f : Option Nat) (s : State) : State :=
  if (s.arbiter.get c).active then resolve c (s.setArbiter c { s.arbiter.get c with failsafe := f }) else s

/-- The chassis demand store is written and an Active arbiter resolves (R76). -/
def storeDemand (c : Corner) (d : Nat) (s : State) : State :=
  resolve c (s.setArbiter c { s.arbiter.get c with stored := some d })

/-- On entry to Running by Start an Enabled corner's arbiter takes DefaultDemand, becomes Active with its forms inactive and
resolves (R77). -/
def startArbiter (c : Corner) (s : State) : State :=
  if (s.sensing.get c).enabled then
    resolve c (s.setArbiter c { Arbiter.reset with active := true, stored := some (s.control.defaultDemand.get c) })
  else s

/-! ### The end-stop guard (5.4) -/

/-- The side on which a travel sample calls for the guard, if any (R82). -/
def Guard.calledBy (g : Guard) (x v : Int) : Option Dir :=
  if g.bumpBand ≠ 0 ∧ (g.bumpBand : Int) ≤ x ∧ (g.guardVel : Int) ≤ v then some .compression
  else if g.reboundBand ≠ 0 ∧ x ≤ -(g.reboundBand : Int) ∧ v ≤ -(g.guardVel : Int) then some .rebound
  else none

/-- The guard is released: no direction, no timer, and the guard form inactive (R84, R86). A Released guard is left as it
is. -/
def releaseGuard (c : Corner) (s : State) : State :=
  match (s.guard.get c).engaged with
  | none => s
  | some _ => handGuard c none (s.setGuard c { s.guard.get c with engaged := none, timer := none })

/-- A travel sample calls for the guard on a side (R83). -/
def engageGuard (c : Corner) (side : Dir) (x : Int) (s : State) : State :=
  let g := s.guard.get c
  let timer := if g.guardHold ≠ 0 then some (s.now + 1000 * g.guardHold) else g.timer
  let s1 := s.setGuard c { g with engaged := some side, timer := timer }
  let record := event .guardEngaged (some c) side.code 0 x.natAbs
  match g.engaged with
  | none => queueEvent record (handGuard c (some g.guardDemand) s1)
  | some d => if d = side then s1 else queueEvent record s1

/-- A travel sample reaches the guard (R82 to R84): it acts in Running and Failsafe. -/
def guardSample (c : Corner) (x v : Int) (s : State) : State :=
  if s.driving then
    let g := s.guard.get c
    match g.calledBy x v with
    | some side => engageGuard c side x s
    | none => if g.timer.isNone then releaseGuard c s else s
  else s

/-- The hold timer of a guard expires (R84). With the timer stopped nothing expires (log 3). -/
def holdExpiry (c : Corner) (s : State) : State :=
  match (s.guard.get c).timer with
  | none => s
  | some t => releaseGuard c ((s.reachTime t).setGuard c { s.guard.get c with timer := none })

/-- What new settings do to an Engaged guard (R85); `old` is the guard before the record. -/
def resetGuard (c : Corner) (old : Guard) (s : State) : State :=
  let g := s.guard.get c
  match g.engaged with
  | none => s
  | some d =>
    let band := match d with
      | .compression => g.bumpBand
      | .rebound => g.reboundBand
    if band = 0 then releaseGuard c s
    else if g.guardDemand = old.guardDemand then s
    else handGuard c (some g.guardDemand) s

end Sys2Proof.Machine
end

