-- ==== Sys2Proof/Machine/PreviewOps.lean ====
section
/-! DEFINITION. Impact detection, the preview queues and the profile runners (chapters 3 and 4). -/

namespace Sys2Proof.Machine

/-! ### The profile runner (chapter 4) -/

/-- The step in force of a context (R61). -/
def Context.step (x : Context) : Option ProfileStep := x.steps[x.index]?

/-- The preview form of a step (R69). -/
def ProfileStep.form (st : ProfileStep) : StepForm := ⟨st.demand, st.mode⟩

/-- A profile of the table; none while undefined (R58). -/
def Preview.profile (p : Preview) (n : Nat) : Option (List ProfileStep) := (p.profiles.toList.getD n none)

/-- An entry starts: the runner copies its profile and hands step 0 to the arbiter (R62). Every entry names a defined
profile (R58, log 18). -/
def startEntry (c : Corner) (e : Entry) (s : State) : State :=
  match s.preview.profile e.profile with
  | none => s
  | some steps =>
    let x : Context := { profile := e.profile, steps := steps, index := 0, start := s.dist.odometer, cls := e.cls,
                         id := e.id, dir := e.dir, origin := e.origin, source := e.source }
    handPreview c (x.step.map ProfileStep.form) (s.setContext c (some x))

/-- A matured entry is offered to the runner: it starts, replaces, or is discarded as Superseded (R62, R63). -/
def offerToRunner (c : Corner) (e : Entry) (s : State) : State :=
  match s.context.get c with
  | none => startEntry c e s
  | some x =>
    if x.cls ≤ e.cls then startEntry c e s
    else queueEvent (event .previewDropped (some c) 1 (byteOf e.cls) e.id.toNat) s

/-- The runner empties its context, if it is Running, and hands the source as inactive (R68). -/
def emptyContext (c : Corner) (s : State) : State :=
  match s.context.get c with
  | none => s
  | some _ => handPreview c none (s.setContext c none)

/-- Steps end by distance (R65): every step the odometer has passed, with the nominal starts kept; none when the last step
ended. The first argument bounds the steps that can end. -/
def endSteps (odometer : Odo) : Nat → Context → Option Context
  | 0, x => some x
  | k + 1, x =>
    match x.step with
    | none => none
    | some st =>
      if (st.length : Int) ≤ signedDiff x.start odometer then
        if x.index + 1 < x.steps.length then
          endSteps odometer k { x with index := x.index + 1, start := x.start + BitVec.ofNat 32 st.length }
        else none
      else some x

/-- The runner takes an advance notice: at most one hand-over (R65, R66). -/
def runnerNotice (c : Corner) (s : State) : State :=
  match s.context.get c with
  | none => s
  | some x =>
    match endSteps s.dist.odometer x.steps.length x with
    | none => emptyContext c s
    | some y =>
      if y.index = x.index then s else handPreview c (y.step.map ProfileStep.form) (s.setContext c (some y))

/-! ### The preview queue (3.4, 3.5) -/

/-- Whether arrival `a` lies before arrival `b` (R2). -/
def earlier (a b : Odo) : Bool := 0 < signedDiff a b

/-- Whether two arrivals lie within MergeDistance (R45). -/
def within (merge : Nat) (a b : Odo) : Bool := (signedDiff a b).natAbs ≤ merge

/-- The entry placed after every entry of earlier arrival and before every entry of later arrival (R45, Insert). -/
def placeByArrival (e : Entry) (q : List Entry) : List Entry :=
  q.takeWhile (fun x => !earlier e.arrival x.arrival) ++ e :: q.dropWhile (fun x => !earlier e.arrival x.arrival)

/-- InjectPreview outcomes (R182). -/
inductive Outcome where
  | inserted | merged | evicted | dropped | disabled | maturedAtOnce
deriving DecidableEq, Repr

/-- Outcome codes (R182). -/
def Outcome.code : Outcome → Byte
  | .inserted => 0
  | .merged => 1
  | .evicted => 2
  | .dropped => 3
  | .disabled => 4
  | .maturedAtOnce => 5

/-- What the insertion rule does to a queue (R45): the new queue, the outcome, the entry that holds the new feature, and the
entry that PreviewDropped reports, if any. -/
structure Insertion where
  queue : List Entry
  outcome : Outcome
  holder : Entry
  lost : Option Entry
deriving DecidableEq, Repr

/-- Of existing entries in arrival order the one that supplies: the first of the highest class (R45, Merge). -/
def strongest (e : Entry) (es : List Entry) : Entry := es.foldl (fun b x => if b.cls < x.cls then x else b) e

/-- The earliest of an arrival and the arrivals of entries (R45, Merge). -/
def earliestArrival (a : Odo) (es : List Entry) : Odo :=
  es.foldl (fun b x => if earlier x.arrival b then x.arrival else b) a

/-- The entry a merge leaves (R45): fields of the supplier, an existing entry on a tie with the new one, at the earliest
arrival. -/
def mergedEntry (new first : Entry) (others : List Entry) : Entry :=
  let best := strongest first others
  { (if best.cls < new.cls then new else best) with arrival := earliestArrival new.arrival (first :: others) }

/-- The lowest class in a queue (R45, Evict). -/
def lowestClass (e : Entry) (es : List Entry) : Nat := es.foldl (fun m x => min m x.cls) e.cls

/-- The insertion rule (R45). -/
def insertEntry (merge : Nat) (new : Entry) (q : List Entry) : Insertion :=
  match q.filter (fun x => within merge new.arrival x.arrival) with
  | first :: others =>
    let m := mergedEntry new first others
    ⟨placeByArrival m (q.filter fun x => !within merge new.arrival x.arrival), .merged, m, none⟩
  | [] =>
    if q.length < 8 then ⟨placeByArrival new q, .inserted, new, none⟩
    else
      match q with
      | [] => ⟨[new], .inserted, new, none⟩
      | e :: es =>
        let low := lowestClass e es
        if low < new.cls then
          match (q.filter fun x => x.cls = low).getLast? with
          | some victim => ⟨placeByArrival new (q.erase victim), .evicted, new, some victim⟩
          | none => ⟨q, .dropped, new, some new⟩
        else ⟨q, .dropped, new, some new⟩

/-- The lead of every queue (R47). -/
def lead (s : State) : Nat := s.dist.speed * s.dist.leadTime / 1000

/-- An entry's remaining, signed(arrival − odometer) (R48). -/
def remaining (s : State) (e : Entry) : Int := signedDiff s.dist.odometer e.arrival

/-- Whether an entry is mature (R48). -/
def mature (s : State) (e : Entry) : Bool := remaining s e ≤ (lead s : Int)

/-- The entries a maturity check takes: the mature heads, in order (R48). -/
def maturing (c : Corner) (s : State) : List Entry := (s.queue.get c).takeWhile (mature s)

/-- The maturity check of one queue: each mature head is removed and offered, in ascending order of arrival (R48, R64). -/
def maturityCheck (c : Corner) (s : State) : State :=
  (maturing c s).foldl (fun t e => offerToRunner c e t) (s.setQueue c ((s.queue.get c).dropWhile (mature s)))

/-- A PreviewDropped record for an entry lost to a full queue (R46). -/
def recordLost (c : Corner) (lost : Option Entry) (s : State) : State :=
  match lost with
  | none => s
  | some e => queueEvent (event .previewDropped (some c) 0 (byteOf e.cls) e.id.toNat) s

/-- An entry is offered to a queue: the insertion rule, its record, then the maturity check unless it was dropped (R45). The
outcome is MaturedAtOnce when the check removed the entry that holds the feature (R55). -/
def offerToQueue (c : Corner) (e : Entry) (s : State) : State × Outcome × Byte :=
  let r := insertEntry s.dist.mergeDistance e (s.queue.get c)
  let s1 := recordLost c r.lost (s.setQueue c r.queue)
  match r.outcome with
  | .dropped => (s1, .dropped, r.holder.id)
  | o => (maturityCheck c s1, if r.holder ∈ maturing c s1 then .maturedAtOnce else o, r.holder.id)

/-- The Id counter moves on (R43). -/
def drawId (s : State) : State := s.setPreview { s.preview with nextId := s.preview.nextId + 1 }

/-! ### Impact detectors (3.2) -/

/-- The class of a velocity in a direction: 0 below threshold 1 (R35, R36). -/
def Detection.classOf (d : Detection) (dir : Dir) (v : Int) : Nat :=
  match dir with
  | .compression => if v < d.tc1 then 0 else if (d.tc3 : Int) ≤ v then 3 else if (d.tc2 : Int) ≤ v then 2 else 1
  | .rebound => if -v < d.tr1 then 0 else if (d.tr3 : Int) ≤ -v then 3 else if (d.tr2 : Int) ≤ -v then 2 else 1

/-- Whether the velocity has fallen below the closing level of a direction (R37). -/
def Detection.closes (d : Detection) (dir : Dir) (v : Int) : Bool :=
  match dir with
  | .compression => v < (d.tc1 : Int) - d.hysteresis
  | .rebound => -v < (d.tr1 : Int) - d.hysteresis

/-- The map cell of a direction and class (R33). -/
def Detection.mapCell (d : Detection) (dir : Dir) (cls : Nat) : Option Nat :=
  match dir, cls with
  | .compression, 1 => d.mapC1
  | .compression, 2 => d.mapC2
  | .compression, 3 => d.mapC3
  | .rebound, 1 => d.mapR1
  | .rebound, 2 => d.mapR2
  | .rebound, 3 => d.mapR3
  | _, _ => none

/-- The length of a window (R39). -/
def windowLength (s : State) (w : Window) : Int := signedDiff w.opening s.dist.odometer

/-- The entry a closing window makes, when the four conditions of R40 hold. -/
def detectedEntry (f : Front) (w : Window) (s : State) : Option Entry :=
  match s.preview.detection.mapCell w.dir w.peak, s.dist.ring with
  | some p, some ring =>
    if s.preview.active ∧ s.dist.previewMinSpeed ≤ s.dist.speed ∧ (s.sensing.get f.rear).enabled then
      some { id := s.preview.nextId, arrival := w.opening + BitVec.ofNat 32 ring.wheelbase, cls := w.peak, dir := w.dir,
             profile := p, origin := .detected, source := some f }
    else none
  | _, _ => none

/-- A window closes: ImpactDetected, then the entry, if any, inserted into the same-side rear queue (R40). -/
def closeWindow (f : Front) (w : Window) (s : State) : State :=
  let s := queueEvent (event .impactDetected (some f.corner) (byteOf w.peak) w.dir.code (windowLength s w).toNat)
    (s.setWindow f none)
  match detectedEntry f w s with
  | none => s
  | some e => (offerToQueue f.rear e (drawId s)).1

/-- A travel sample at a Closed detector (R35). -/
def openWindow (f : Front) (v : Int) (s : State) : State :=
  let d := s.preview.detection
  let w (dir : Dir) : Window := ⟨dir, d.classOf dir v, s.dist.odometer⟩
  if 0 < d.classOf .compression v then s.setWindow f (some (w .compression))
  else if 0 < d.classOf .rebound v then s.setWindow f (some (w .rebound))
  else s

/-- A travel sample reaches an impact detector (R35 to R38): it acts in Running. -/
def detectorSample (f : Front) (v : Int) (s : State) : State :=
  if s.control.part = .running then
    match s.window.get f with
    | none => openWindow f v s
    | some w =>
      let d := s.preview.detection
      if 0 < d.classOf w.dir.opposite v then openWindow f v (closeWindow f w s)
      else if d.closes w.dir v then closeWindow f w s
      else s.setWindow f (some { w with peak := max w.peak (d.classOf w.dir v) })
  else s

/-- A detector takes an advance notice (R39). -/
def detectorNotice (f : Front) (s : State) : State :=
  match s.window.get f with
  | none => s
  | some w => if (s.preview.detection.windowMax : Int) ≤ windowLength s w then closeWindow f w s else s

/-! ### Notices of the distance unit -/

/-- The maturity check of every queue, as the blocks' own actions (R48). -/
def allChecks : List (State → State) := Corner.list.map maturityCheck

/-- A vehicle speed update: the maturity check at every queue, in a free order (R13, R48, log 5). -/
def speedUpdate (s : State) : State := forEachFree allChecks (fun f t => f t) s

/-- An advance notice (R6): every runner ends its steps first (R49); then the four maturity checks and the two detectors act,
in a free order (R50, log 5). -/
def advanceNotice (s : State) : State :=
  forEachFree (allChecks ++ [detectorNotice .fl, detectorNotice .fr]) (fun f t => f t)
    (Corner.list.foldl (fun t c => runnerNotice c t) s)

end Sys2Proof.Machine
end

