-- ==== Sys2Proof/Machine/Flags.lean ====
section
/-! DEFINITION. The preview-active flag (3.6) and DistanceLost (1.7). -/

namespace Sys2Proof.Machine

/-- The three conditions of the preview-active flag (R51). -/
def previewCondition (s : State) : Bool :=
  s.control.part = .running && s.dist.direction = .forward && !s.dist.lost

/-- The flag turning false empties all queues, empties all contexts and abandons any open window (R41, R52). -/
def flushPreview (s : State) : State :=
  Corner.list.foldl (fun t c => emptyContext c t) { s with queue := PerCorner.all [], window := ⟨none, none⟩ }

/-- The queues and windows as the flag's turning false leaves them, the contexts left to the arbiters' hand-overs (R52,
R78). -/
def flushQueues (s : State) : State := { s with queue := PerCorner.all [], window := ⟨none, none⟩ }

/-- The flag is judged again (R51 to R53). -/
def judgePreview (s : State) : State :=
  let s1 := s.setPreview { s.preview with active := previewCondition s }
  if s.preview.active && !previewCondition s then flushPreview s1 else s1

/-- DistanceLost is evaluated (R16). -/
def evalDistanceLost (s : State) : State :=
  if !s.dist.lost ∧ s.dist.wheel.fl.speed = 0 ∧ s.dist.wheel.fr.speed = 0 ∧ 2000 ≤ s.dist.referenceSpeed then
    judgePreview (queueEvent (event .distanceLost none 0 0 s.dist.referenceSpeed)
      (s.setDist { s.dist with lost := true }))
  else s

/-- DistanceLost becomes clear at an accepted pulse on a wheel in service (R17). -/
def restoreDistance (w : Front) (s : State) : State :=
  if s.dist.lost then
    judgePreview (queueEvent (event .distanceRestored (some w.corner) 0 0 s.dist.referenceSpeed)
      (s.setDist { s.dist with lost := false }))
  else s

end Sys2Proof.Machine
end

