-- ==== Sys2Proof/Machine/Motion.lean ====
section
/-! DEFINITION. The distance unit and wheel travel sensing (chapters 1 and 2). -/

namespace Sys2Proof.Machine

/-! ### Wheel speed and odometer (chapter 1) -/

/-- A wheel speed from a period (R8): 0 without a period or while the geometry is unwritten (R5). -/
def wheelSpeed (ring : Option Ring) (period : Option Nat) : Nat :=
  match ring, period with
  | some g, some p => min maxSpeed (roundHalfUp (g.circumference * 1000000) (g.teeth * p))
  | _, _ => 0

/-- The vehicle speed of two wheels (R13). -/
def vehicleSpeed (w : PerFront Wheel) : Nat :=
  if w.fl.state = .faulted then w.fr.speed
  else if w.fr.state = .faulted then w.fl.speed
  else (w.fl.speed + w.fr.speed) / 2

/-- Inc_half and Inc_full in 1/256 mm (R5). -/
def increment (g : Ring) (full : Bool) : Nat :=
  if full then roundHalfUp (g.circumference * 256) g.teeth else roundHalfUp (g.circumference * 128) g.teeth

/-- An increment added to the odometer: whole 256ths carry into the millimetre count (R6). -/
def Distance.advance (inc : Nat) (d : Distance) : Distance :=
  { d with odometer := d.odometer + BitVec.ofNat 32 ((d.fraction + inc) / 256), fraction := (d.fraction + inc) % 256 }

/-- The interval from the last accepted edge to an edge, modulo 2^32 (1.1). -/
def Wheel.interval (w : Wheel) (stamp : Stamp) : Option Nat := w.lastEdge.map fun e => (stamp - e).toNat

/-- Whether an edge passes the glitch filter (R3). -/
def Wheel.accepts (w : Wheel) (stamp : Stamp) : Bool :=
  match w.interval stamp with
  | none => true
  | some i => glitchTime ≤ i

/-- An accepted pulse at its own wheel: last accepted edge, silence timer, cross count, and period, speed, wheel state and
restore count by the wheel state (R7, R8, R10, R12). -/
def Wheel.pulse (ring : Option Ring) (now : Nat) (stamp : Stamp) (w : Wheel) : Wheel :=
  let base := { w with lastEdge := some stamp, cross := min 255 (w.cross + 1), silence := some (now + silenceTime),
                       period := w.interval stamp }
  match w.state with
  | .valid => { base with speed := wheelSpeed ring (w.interval stamp) }
  | .silent => { base with state := .valid, period := none, speed := 0 }
  | .faulted =>
    if 32 ≤ w.restore + 1 then
      { base with state := .valid, restore := 0, speed := wheelSpeed ring (w.interval stamp) }
    else { base with restore := w.restore + 1, speed := 0 }

/-- The vehicle speed recomputed (R13). -/
def Distance.withSpeed (d : Distance) : Distance := { d with speed := vehicleSpeed d.wheel }

/-- A changed vehicle speed is handed to the queues (R13); a record of the same moment may come before or after (R178,
log 5). -/
def handSpeed (before : Nat) (record : Option Event) (s : State) : State :=
  let records : List (State → State) := (record.map queueEvent).toList
  if s.dist.speed = before then records.foldl (fun t f => f t) s
  else forEachFree (records ++ allChecks) (fun f t => f t) s

/-- The WheelInputRestored record of a wheel just restored (R12). -/
def restoredRecord (w : Front) (old new : Wheel) : Option Event :=
  if old.state = .faulted ∧ new.state = .valid then some (event .wheelInputRestored (some w.corner) 0 0 new.speed)
  else none

/-- The steps of an accepted pulse (R3, R6, R8, R10, R12, R17). -/
def acceptPulse (w : Front) (stamp : Stamp) (s : State) : State :=
  let before := s.dist.speed
  let me := s.dist.wheel.get w
  let other := s.dist.wheel.get w.other
  let me' := me.pulse s.dist.ring s.now stamp
  let wheels := (s.dist.wheel.set w me').set w.other { other with cross := 0 }
  let s := s.setDist { s.dist with wheel := wheels }.withSpeed
  if me.state = .faulted then handSpeed before (restoredRecord w me me') s
  else
    let s := restoreDistance w s
    match s.dist.ring with
    | none => handSpeed before none s
    | some g => advanceNotice (s.setDist (s.dist.advance (increment g (other.state = .faulted))))

/-- Whether edges are captured: not in Parked and Waking (R3), nor while RESETN is low (R152). -/
def capturing (s : State) : Bool := !(s.resetLow || s.control.part = .parked || s.control.part = .waking)

/-- The time at which the time base next reads a captured value (log 4). -/
def State.reachStamp (s : State) (stamp : Stamp) : State := { s with now := s.now + (stamp - s.timeBase).toNat }

/-- A rising edge on a wheel-speed input (R3). -/
def wheelEdge (w : Front) (stamp : Stamp) (s : State) : State :=
  let s := s.reachStamp stamp
  if capturing s && (s.dist.wheel.get w).accepts stamp then acceptPulse w stamp s else s

/-- A wheel at its silence expiry (R9, R11): `judged` says whether the other wheel is not Faulted and delivered 20 or more
pulses. -/
def Wheel.silenced (judged : Bool) (now : Nat) (w : Wheel) : Wheel :=
  let base := { w with period := none, lastEdge := none, silence := some (now + silenceTime) }
  match w.state with
  | .valid => { base with speed := 0, state := if judged then .faulted else .silent,
                          restore := if judged then 0 else w.restore }
  | .silent => { base with speed := 0, state := if judged then .faulted else .silent,
                           restore := if judged then 0 else w.restore }
  | .faulted => { base with restore := 0 }

/-- A wheel's silence timer expires (R7, R9, R10, R11, R16). With the timer stopped nothing expires (log 3). -/
def silence (w : Front) (s : State) : State :=
  let me := s.dist.wheel.get w
  match me.silence with
  | none => s
  | some t =>
    let s := s.reachTime t
    let before := s.dist.speed
    let other := s.dist.wheel.get w.other
    let judged := other.state ≠ .faulted && 20 ≤ other.cross
    let wheels := (s.dist.wheel.set w (me.silenced judged s.now)).set w.other { other with cross := 0 }
    let record := if me.state ≠ .faulted ∧ judged then
        some (event .wheelInputFault (some w.corner) 0 0 other.cross) else none
    evalDistanceLost (handSpeed before record (s.setDist { s.dist with wheel := wheels }.withSpeed))

/-- The DriveState timer expires (R15). -/
def driveTimeout (s : State) : State :=
  match s.dist.driveTimer with
  | none => s
  | some t =>
    let s := s.reachTime t
    judgePreview (s.setDist { s.dist with direction := .unknown, driveTimer := none })

/-! ### Wheel travel sensing (chapter 2) -/

/-- The position of a good sample in 0.1 mm (R26). An Enabled corner has a written setup (R23). -/
def Sensing.position (x : Sensing) (raw : Nat) : Int :=
  match x.scale with
  | none => 0
  | some (travelZero, scale) =>
    let d : Int := if x.invert then (travelZero : Int) - raw else (raw : Int) - travelZero
    clamp (-2000) 2000 (roundHalfAway (d * scale) 100)

/-- A position appended to the history, the oldest of five removed first (R27). -/
def appendPosition (x : Int) (h : List Int) : List Int := (if h.length < 5 then h else h.drop 1) ++ [x]

/-- The velocity, present while the history holds five positions (R27). -/
def Sensing.velocity (x : Sensing) : Option Int :=
  match x.history with
  | [a, _, _, _, e] => some ((e - a) * 25)
  | _ => none

/-- A travel sample is handed to the guard, and at a front corner to the detector too, in a free order (R28, log 5). -/
def handSample (c : Corner) (x v : Int) (s : State) : State :=
  match c.front? with
  | none => guardSample c x v s
  | some f => inEitherOrder (guardSample c x v) (detectorSample f v) s

/-- A good sample (R26 to R28, R30). R30 takes the history to be full at the twentieth good sample of a Faulted sensor; when a
SetCorner has emptied it inside the run (R24), the velocity is absent and the sample is handed to neither receiver (R28,
log 29). -/
def goodSample (c : Corner) (raw : Nat) (s : State) : State :=
  let x := s.sensing.get c
  let pos := x.position raw
  let y := { x with history := appendPosition pos x.history }
  if x.faulted then
    if 20 ≤ x.good + 1 then
      let z := { y with faulted := false, good := 0 }
      let s := queueEvent (event .sensorRecovered (some c) 0 0 raw) (s.setSensing c z)
      match z.velocity with
      | some v => handSample c pos v s
      | none => s
    else s.setSensing c { y with good := x.good + 1 }
  else
    let z := { y with bad := 0 }
    match z.velocity with
    | some v => handSample c pos v (s.setSensing c z)
    | none => s.setSensing c z

/-- The sensor fault notice at the guard and, at a front corner, the detector (R29, R41, R86). -/
def sensorFaultNotice (c : Corner) (s : State) : State :=
  match c.front? with
  | none => releaseGuard c s
  | some f => (releaseGuard c s).setWindow f none

/-- A bad sample (R29): its side is Low below 200 and High above 3895. -/
def badSample (c : Corner) (raw : Nat) (s : State) : State :=
  let x := s.sensing.get c
  let y := { x with history := [], good := 0 }
  if x.faulted then s.setSensing c y
  else if 3 ≤ x.bad + 1 then
    sensorFaultNotice c
      (queueEvent (event .sensorFault (some c) (if raw < 200 then 0 else 1) 0 raw)
        (s.setSensing c { y with faulted := true, bad := 0 }))
  else s.setSensing c { y with bad := x.bad + 1 }

/-- A travel conversion at its corner's sensing block (R25): a corner that is not Enabled discards it, and Waking's
conversions are discarded (R22). -/
def travelSample (c : Corner) (raw : Nat) (s : State) : State :=
  if s.control.part = .waking || !(s.sensing.get c).enabled then s
  else if 200 ≤ raw ∧ raw ≤ 3895 then goodSample c raw s
  else badSample c raw s

/-- The channel after one in the order of a scan (R20). -/
def ScanPos.next : ScanPos → ScanPos
  | .idle => .idle
  | .travel .fl => .travel .fr
  | .travel .fr => .travel .rl
  | .travel .rl => .travel .rr
  | .travel .rr => .vbat
  | .vbat => .idle

/-- A travel conversion completes: it goes to the owner of the channel the scan position names, and the position moves on
(R20). With no travel conversion under way none completes (log 7). -/
def travelDone (raw : Count) (s : State) : State :=
  match s.conv.pos with
  | .travel c => travelSample c raw.toNat (s.setConv { s.conv with pos := s.conv.pos.next })
  | .idle => s
  | .vbat => s

/-- The scan timer expires: the next interval starts at once and a scan begins at FL (R20). R20 lets no expiry come while a
scan is under way; if one is commanded then, the model begins the new scan at FL and the conversions still due do not come
(log 27). -/
def beginScan (s : State) : State :=
  match s.conv.timer with
  | none => s
  | some t => (s.reachTime t).setConv { timer := some (t + scanTime), pos := .travel .fl }

/-! ### The supply monitor (8.4) -/

/-- The battery voltage of a raw count (R21). -/
def batteryVoltage (raw : Nat) : Nat := roundHalfUp (raw * 6000) 1024

/-- The band after a sample, judged from the band held (R144). -/
def Band.after (b : Band) (v : Nat) : Band :=
  match b with
  | .normal => if v < 6000 ∨ 18000 < v then .hold else if v ≤ 8999 then .low else .normal
  | .low => if v < 6000 ∨ 18000 < v then .hold else if 9500 ≤ v then .normal else .low
  | .hold => if 6500 ≤ v ∧ v ≤ 9499 then .low else if 9500 ≤ v ∧ v ≤ 17500 then .normal else .hold

/-- The record of a band entered (R144). -/
def bandRecord (b : Band) (v : Nat) : Event :=
  match b with
  | .normal => event .supplyNormal none 0 0 v
  | .low => event .supplyLow none 0 0 v
  | .hold => event .supplyHold none (if v < 6000 then 0 else 1) 0 v

/-- A VBAT sample at the supply monitor: VBAT stored, the band judged, and the regulators brought into or out of Hold (R144,
R146, R147). The band's record is queued before the Cancelled answers are placed, so that their Summary counts it
(log 17). -/
def supplySample (v : Nat) (s : State) : State :=
  let old := s.supply.band
  let b := old.after v
  let s := s.setSupply { vbat := some v, band := b }
  if b = old then s
  else
    let s := queueEvent (bandRecord b v) s
    if b = .hold then cancelTests { s with reg := s.reg.mapIdx fun _ r => enterHold s.regulation r }
    else if old = .hold then { s with reg := s.reg.mapIdx fun c r => leaveHold s.regulation b c s.now r }
    else s

/-- A VBAT conversion completes (R20, R21). With no VBAT conversion under way none completes (log 7). -/
def vbatDone (raw : Count) (s : State) : State :=
  match s.conv.pos with
  | .vbat => supplySample (batteryVoltage raw.toNat) (s.setConv { s.conv with pos := s.conv.pos.next })
  | .idle => s
  | .travel _ => s

end Sys2Proof.Machine
end

