-- ==== Sys2Proof/Machine/Operands.lean ====
section
/-! DEFINITION. Reading the fields of a request: ranges, codes, corner sets, and the first offending field (R176, R182). -/

namespace Sys2Proof.Machine

/-- The number, from 1, of the first field whose check fails (R176). -/
def firstBad : List Bool → Option Nat
  | [] => none
  | true :: rest => (firstBad rest).map (· + 1)
  | false :: _ => some 1

/-- A two-byte field within lo..hi. -/
def inRange (lo hi : Nat) (h : Half) : Bool := lo ≤ h.toNat && h.toNat ≤ hi

/-- A one-byte field within lo..hi. -/
def byteInRange (lo hi : Nat) (b : Byte) : Bool := lo ≤ b.toNat && b.toNat ≤ hi

/-- A yes or no field in range (R182). -/
def isFlag (b : Byte) : Bool := (flagOfCode b).isSome

/-- A corner field in range (R182). -/
def isCorner (b : Byte) : Bool := (Corner.ofCode b).isSome

/-- A corner set in range: none of bits 4 to 7 (R182). -/
def isCornerSet (b : Byte) : Bool := b.toNat < 16

/-- A corner set that names at least one corner (R54, R56). -/
def isSomeCornerSet (b : Byte) : Bool := isCornerSet b && b != 0

/-- The corners a set names, in the order FL, FR, RL, RR. -/
def cornersOf (b : Byte) : List Corner := Corner.list.filter (·.inSet b)

/-- A step mode field (R182). -/
def StepMode.ofCode (b : Byte) : Option StepMode := if b = 0 then some .set else if b = 1 then some .floor else none

/-- An impact direction field (R182). -/
def Dir.ofCode (b : Byte) : Option Dir := if b = 0 then some .compression else if b = 1 then some .rebound else none

/-- The Direction field of DriveState: Forward, Reverse or Neutral (R14). -/
def Travel.ofCode (b : Byte) : Option Travel :=
  if b = 0 then some .forward else if b = 1 then some .reverse else if b = 2 then some .neutral else none

/-- The checks of SetGeometry in order (R4). -/
def geometryChecks (r : GeometryRecord) : List Bool :=
  [inRange 2000 4000 r.wheelbase, inRange 1500 3000 r.circumference, byteInRange 20 120 r.teeth,
   byteInRange 0 50 r.leadTime, inRange 0 1000 r.mergeDistance, inRange 0 20000 r.previewMinSpeed]

/-- The checks of SetCorner in order (R23). -/
def cornerChecks (r : CornerRecord) : List Bool :=
  [isCorner r.corner, isFlag r.enabled, inRange 0 4095 r.travelZero, byteInRange 10 200 r.travelScale, isFlag r.invert]

/-- The range checks of SetCurve in order: the corner, then P0 to P10 (R91). -/
def curveChecks (r : CurveRecord) : List Bool := isCorner r.corner :: r.points.toList.map (inRange 0 2000)

/-- The monotonicity test from a point on, with the sense so far and the number of the next point: the point at which the
curve turns back (R92). -/
def turnsBack : Int → Nat → List Int → Option Nat
  | _, _, [] => none
  | _, _, [_] => none
  | sense, k, a :: b :: rest =>
    if sense * (b - a) < 0 then some k
    else turnsBack (if sense = 0 then b - a else sense) (k + 1) (b :: rest)

/-- The point at which a SetCurve record turns back, if any (R92). -/
def curveTurn (r : CurveRecord) : Option Nat := turnsBack 0 1 (r.points.toList.map fun h => (h.toNat : Int))

/-- The checks of SetRegulation in order (R104). -/
def regulationChecks (r : RegulationRecord) : List Bool :=
  [isFlag r.fixedLatency, inRange 20 1000 r.probeInterval, isCornerSet r.probeCorners, true, inRange 0 2000 r.kickStep,
   byteInRange 0 20 r.kickTime, inRange 0 2000 r.quenchStep, byteInRange 0 20 r.quenchTime]

/-- The checks of SetSafety in order (R157). -/
def safetyChecks (r : SafetyRecord) : List Bool :=
  [inRange 20 1000 r.demandTimeout, inRange 0 1000 r.failsafeDemand, inRange 0 1000 r.defaultDemand.fl,
   inRange 0 1000 r.defaultDemand.fr, inRange 0 1000 r.defaultDemand.rl, inRange 0 1000 r.defaultDemand.rr]

/-- The checks of one SetProfile step: Demand, Mode, Length (R59). -/
def stepChecks (r : StepRecord) : List Bool :=
  [inRange 0 1000 r.demand, (StepMode.ofCode r.mode).isSome, inRange 1 5000 r.length]

/-- The first offending step field of SetProfile: its place in the step, from 2, and the step index (R59, R176). -/
def badStep : Nat → List StepRecord → Option (Nat × Nat)
  | _, [] => none
  | i, r :: rest =>
    match firstBad (stepChecks r) with
    | some n => some (n + 1, i)
    | none => badStep (i + 1) rest

/-- The first offending field of SetProfile and its index (R59, R176). -/
def badProfileField (profile : Byte) (steps : List StepRecord) : Option (Nat × Nat) :=
  if byteInRange 0 7 profile then badStep 0 steps else some (1, 0)

/-- A step record as a step of the table; read only after its checks have passed. -/
def readStep (r : StepRecord) : ProfileStep :=
  ⟨r.demand.toNat, (StepMode.ofCode r.mode).getD .set, r.length.toNat⟩

/-- A map cell: None, or a profile that the table defines (R33). -/
def cellDefined (p : Preview) (b : Byte) : Bool :=
  b = 0xFF || (byteInRange 0 7 b && (p.profile b.toNat).isSome)

/-- A map cell's value (R182). -/
def cellOf (b : Byte) : Option Nat := if b = 0xFF then none else some b.toNat

/-- The checks of SetDetection in order (R33). -/
def detectionChecks (p : Preview) (r : DetectionRecord) : List Bool :=
  [inRange 100 5000 r.tc1, inRange 100 5000 r.tc2 && r.tc1.toNat < r.tc2.toNat,
   inRange 100 5000 r.tc3 && r.tc2.toNat < r.tc3.toNat,
   inRange 100 5000 r.tr1, inRange 100 5000 r.tr2 && r.tr1.toNat < r.tr2.toNat,
   inRange 100 5000 r.tr3 && r.tr2.toNat < r.tr3.toNat,
   inRange 0 1000 r.hysteresis, inRange 50 1000 r.windowMax,
   cellDefined p r.mapC1, cellDefined p r.mapC2, cellDefined p r.mapC3,
   cellDefined p r.mapR1, cellDefined p r.mapR2, cellDefined p r.mapR3]

/-- The checks of SetGuard in order (R81). -/
def guardChecks (r : GuardRecord) : List Bool :=
  [isCorner r.corner, inRange 0 1500 r.bumpBand, inRange 0 1500 r.reboundBand, inRange 0 5000 r.guardVel,
   inRange 0 1000 r.guardDemand, byteInRange 0 200 r.guardHold]

/-- The checks of InjectPreview in order (R54). -/
def injectChecks (p : Preview) (r : InjectRecord) : List Bool :=
  [isSomeCornerSet r.corners, inRange 0 60000 r.distance, byteInRange 1 3 r.cls, (Dir.ofCode r.direction).isSome,
   byteInRange 0 7 r.profile && (p.profile r.profile.toNat).isSome]

/-- What a demand value means for a corner's store (R75): absent for Keep, 1000 for a value above 1000. -/
def demandOf (h : Half) : Option Nat := if h.toNat = 65535 then none else some (min 1000 h.toNat)

/-- Whether a demand value is clamped (R75). -/
def demandClamped (h : Half) : Bool := 1000 < h.toNat && h.toNat < 65535

end Sys2Proof.Machine
end

