-- ==== Sys2Proof/Machine/Reports.lean ====
section
/-! DEFINITION. What Identify, ReadStatus, ReadCorner and ReadEvents report (R70, R87 to R89, R165, R180, R181), in the
layouts of 10.11. -/

namespace Sys2Proof.Machine

/-- The Identify payload (R181): part code 0x0410, design level 1, link protocol level 1. -/
def identifyPayload : List Byte := [0x04, 0x10, 0x01, 0x01]

/-- Remaining whole ms of a timer, rounded half up (R88, R165). -/
def remainingMs (now expiry : Nat) : Nat := roundHalfUp (expiry - now) 1000

/-- The three bytes of one corner in ReadStatus: flags, regulator mode, fault kind. -/
def statusCorner (s : State) (c : Corner) : List Byte :=
  let r := s.reg.get c
  [flagByte (s.sensing.get c).enabled ||| flagByte (s.mapper.get c).curve.isSome <<< 1 ||| flagByte r.latched <<< 2,
   r.mode.code, faultCode r.fault]

/-- The ReadStatus payload, 37 bytes (R165). -/
def statusPayload (s : State) : List Byte :=
  [s.control.part.code, failCauseCode s.control.cause] ++
  optBytes2 (s.control.demandTimer.map (remainingMs s.now)) ++
  [flagByte s.preview.active, s.dist.direction.code] ++
  bytes4 (BitVec.ofNat 32 s.dist.referenceSpeed) ++
  [flagByte s.dist.lost] ++
  bytes4 (BitVec.ofNat 32 s.dist.speed) ++
  bytes4 s.dist.odometer ++
  [s.dist.wheel.fl.state.code, s.dist.wheel.fr.state.code, flagByte s.dist.ring.isSome, s.supply.band.code] ++
  optBytes2 s.supply.vbat ++
  Corner.list.flatMap (statusCorner s)

/-- The level-1 bytes of ReadCorner: Mode, Demand, value (R88); inactive in an Idle arbiter. -/
def levelOneBytes (a : Arbiter) : List Byte :=
  match a.active, a.preview with
  | true, some f => [f.mode.code] ++ bytes2 (value16 f.demand) ++ bytes2 (value16 (f.value a.stored))
  | _, _ => [0xFF, 0xFF, 0xFF, 0xFF, 0xFF]

/-- The guard bytes of ReadCorner: state with direction, hold remaining (R88). -/
def guardBytes (now : Nat) (g : Guard) : List Byte :=
  [match g.engaged with
    | none => 0
    | some .compression => 1
    | some .rebound => 2,
   match g.timer with
    | none => 0xFF
    | some t => byteOf (remainingMs now t)]

/-- The travel sensing bytes of ReadCorner: sensor state, latest position, velocity (R27). -/
def sensingBytes (x : Sensing) : List Byte :=
  [flagByte x.faulted] ++
  (match x.history.getLast? with
    | none => [0x80, 0x00]
    | some p => bytes2 (BitVec.ofInt 16 p)) ++
  (match x.velocity with
    | none => [0x80, 0x00, 0x00, 0x00]
    | some v => bytes4 (BitVec.ofInt 32 v))

/-- The preview queue bytes of ReadCorner: entries, and the head's Id, arrival and remaining (R44). -/
def queueBytes (odometer : Odo) (q : List Entry) : List Byte :=
  [byteOf q.length] ++
  (match q with
    | [] => [0xFF, 0xFF, 0xFF, 0xFF, 0xFF, 0x80, 0x00, 0x00, 0x00]
    | e :: _ => [e.id] ++ bytes4 e.arrival ++ bytes4 (BitVec.ofInt 32 (signedDiff odometer e.arrival)))

/-- The source corner of an entry or context, absent for Injected (R70, R182). -/
def sourceByte : Option Front → Byte
  | none => 0xFF
  | some f => f.corner.code

/-- The preview context bytes of ReadCorner, each 0 when Empty (R70). -/
def contextBytes (odometer : Odo) : Option Context → List Byte
  | none => [0, 0, 0, 0, 0, 0, 0, 0, 0, 0, 0]
  | some x =>
    [1, byteOf x.profile, x.id, byteOf x.cls, x.dir.code, x.origin.code, sourceByte x.source, byteOf x.steps.length,
     byteOf x.index] ++ bytes2 (BitVec.ofInt 16 (signedDiff x.start odometer))

/-- The regulation bytes of ReadCorner: mode, target, pending target, wait to the apply time, duty, trim, R_est, last Im, and
the fault kind (R89, R121). -/
def regulatorBytes (now : Nat) (r : Regulator) : List Byte :=
  [r.mode.code] ++ optBytes2 r.target ++ optBytes2 (r.slot.map (·.target)) ++
  optBytes2 ((r.slot.bind (·.applyAt)).map (· - now)) ++
  bytes2 (value16 r.duty) ++ bytes2 (BitVec.ofInt 16 r.trim) ++ bytes2 (value16 r.rEst) ++ bytes2 (value16 r.lastIm) ++
  [faultCode r.fault]

/-- The ReadCorner payload, 62 bytes (R87 to R89). -/
def cornerPayload (c : Corner) (s : State) : List Byte :=
  let a := s.arbiter.get c
  let r := s.reg.get c
  [c.code,
   flagByte (s.sensing.get c).enabled ||| flagByte a.active <<< 1 ||| flagByte (s.mapper.get c).curve.isSome <<< 2 |||
     flagByte r.latched <<< 3] ++
  optBytes2 a.stored ++ optBytes2 a.failsafe ++ optBytes2 a.guard ++ levelOneBytes a ++
  [match a.level with
    | none => 0xFF
    | some l => l.code] ++
  optBytes2 a.resolved ++ guardBytes s.now (s.guard.get c) ++ sensingBytes (s.sensing.get c) ++
  queueBytes s.dist.odometer (s.queue.get c) ++ contextBytes s.dist.odometer (s.context.get c) ++
  regulatorBytes s.now r

/-- One event record as seven bytes (Event records, 10.11). -/
def Event.bytes (e : Event) : List Byte :=
  [e.kind.code,
   match e.corner with
    | none => 0xFF
    | some c => c.code,
   e.detail1, e.detail2] ++ bytes2 e.value ++ [byteOf e.count]

/-- ReadEvents removes the oldest records, reports the overflow mark as it stood, and clears it (R180). -/
def takeEvents (wanted : Nat) (s : State) : State × List Byte :=
  let taken := s.link.events.take wanted
  let rest := s.link.events.drop wanted
  (s.setLink { s.link with events := rest, overflow := false, atn := !rest.isEmpty },
   [byteOf taken.length, flagByte s.link.overflow] ++ taken.flatMap Event.bytes)

end Sys2Proof.Machine
end

