-- ==== Sys2Proof/Machine/Control.lean ====
section
/-! DEFINITION. The state controller (chapter 9): resets, the entries to and exits from the part states, the demand timer. -/

namespace Sys2Proof.Machine

/-! ### Resets (9.2) -/

/-- Every block takes its reset values and Starting begins (R152). The clock, the choice counter, the queue of commands and
the level of SELN are not reset (log 10). -/
def beginStarting (s : State) : State := State.resetAt s.now s.choices s.pending s.link.selnLow

/-- What holds while RESETN is low (R152, R166): every block at its reset values, every timer stopped, every driver at duty 0,
no self-test begun. -/
def holdReset (s : State) : State :=
  let t := beginStarting s
  { t with
    resetLow := true,
    control := { t.control with startTimer := none },
    dist := { t.dist with
      wheel := ⟨{ t.dist.wheel.fl with silence := none }, { t.dist.wheel.fr with silence := none }⟩ },
    conv := { t.conv with timer := none },
    reg := t.reg.mapIdx fun _ r => { r with mode := .off, period := none, duty := 0 } }

/-- The supplies are established (R152): Starting begins, or, with RESETN low, the reset is held until its release
(log 10). -/
def powerUp (s : State) : State := if s.resetLow then holdReset s else beginStarting s

/-- An edge of RESETN (R152): with the line high it is asserted and the reset is held; with the line low it is released and
Starting begins (log 10). -/
def resetEdge (s : State) : State := if s.resetLow then beginStarting s else holdReset s

/-- A Restart (R153): the part is reset, a transaction under way becomes void, and the Restart's own reply is placed. -/
def restartPart (tag : Byte) (s : State) : State :=
  let t := beginStarting s
  let t := if s.link.outbound.isSome then t.setLink { t.link with outbound := some .void, sdo := s.link.sdo } else t
  reply tag 0x35 .ok [] t

/-! ### Entries to the part states -/

/-- The start timer expires: the part enters Configuring (R152). -/
def endStarting (s : State) : State :=
  match s.control.startTimer with
  | none => s
  | some t =>
    let s := s.reachTime t
    changePart .configuring none .startingEnd 0 (s.setControl { s.control with startTimer := none })

/-- What Start finds missing, in the order of R155: item code and corner. -/
def missingItems (s : State) : List Byte :=
  let enabled := Corner.list.filter fun c => (s.sensing.get c).enabled
  (if s.dist.ring.isNone then [0x00, 0xFF] else []) ++
  (if enabled.isEmpty then [0x01, 0xFF] else []) ++
  (enabled.filter fun c => (s.mapper.get c).curve.isNone).flatMap fun c => [0x02, c.code]

/-- Every regulator at a Start: a test excitation is abandoned (R141), and an Enabled corner's regulator enters regulation or
Hold (R112, R147). -/
def startRegulators (s : State) : State :=
  { s with reg := s.reg.mapIdx fun c r =>
      if (s.sensing.get c).enabled then startRegulator s.regulation s.supply.band c s.now (abandonTest r)
      else abandonTest r }

/-- Entry to Running by Start (R156): each corner's arbiter hands its target before the regulator enters. -/
def enterRunning (tag : Byte) (s : State) : State :=
  let s := changePart .running s.control.cause .start tag s
  let s := s.setControl { s.control with demandTimer := some (s.now + 1000 * s.control.demandTimeout) }
  let s := Corner.list.foldl (fun t c => startArbiter c t) s
  cancelTests (judgePreview (startRegulators s))

/-- Entry to Failsafe from Running (R159): preview is flushed, and at each corner the emptied context and the failsafe form
reach the arbiter in either order (R78, log 5). Every exit from Running abandons an open window (R41, log 17). -/
def enterFailsafe (fc : FailCause) (cause : Cause) (tag : Byte) (s : State) : State :=
  let s := changePart .failsafe (some fc) cause tag s
  let s := s.setControl { s.control with demandTimer := none }
  let s := flushQueues (s.setPreview { s.preview with active := false })
  Corner.list.foldl
    (fun t c => inEitherOrder (emptyContext c) (handFailsafe c (some t.control.failsafeDemand)) t) s

/-- The demand timer expires (R158): Running enters Failsafe, any other state only stops the timer. -/
def demandExpiry (s : State) : State :=
  match s.control.demandTimer with
  | none => s
  | some t =>
    let s := s.reachTime t
    let s := s.setControl { s.control with demandTimer := none }
    if s.control.part = .running then enterFailsafe .demandTimeout .demandTimeout 0 s else s

/-- Return to Running by Resume (R160, R79). -/
def resumeRunning (tag : Byte) (s : State) : State :=
  let s := changePart .running none .resume tag s
  judgePreview (Corner.list.foldl (fun t c => handFailsafe c none t) s)

/-- What Stop and Park share: preview flushed, arbiters Idle and cleared (R80), guards released (R86), last targets
forgotten (R97), regulators Off or Faulted (R130, R141). The Idle arbiters hand nothing on. -/
def idleBlocks (s : State) : State :=
  let s := flushQueues (s.setPreview { s.preview with active := false })
  { s with
    context := PerCorner.all none,
    arbiter := PerCorner.all Arbiter.reset,
    guard := s.guard.mapIdx fun _ g => { g with engaged := none, timer := none },
    mapper := s.mapper.mapIdx fun _ m => { m with last := none },
    reg := s.reg.mapIdx fun _ r => enterOff r }

/-- Stop (R161, R143, R19): the part enters Configuring, latches are cleared, faults kept, direction becomes Unknown. -/
def stopPart (tag : Byte) (s : State) : State :=
  let s := changePart .configuring none .stop tag s
  let s := s.setControl { s.control with demandTimer := none }
  let s := idleBlocks s
  let s : State := { s with reg := s.reg.mapIdx fun _ r => { r with latched := false } }
  let s := s.setDist { s.dist with direction := .unknown, driveTimer := none }
  cancelTests s

/-- A wheel at the entry to Parked (R19). -/
def Wheel.park (w : Wheel) : Wheel := { w with lastEdge := none, period := none, speed := 0, silence := none }

/-- Park (R162, R19, R22, R32, R102): the part enters Parked and the timers that make samples and periods stop. -/
def parkPart (tag : Byte) (s : State) : State :=
  let s := changePart .parked none .park tag s
  let s := s.setControl { s.control with demandTimer := none }
  let s := idleBlocks s
  let s : State := { s with
    reg := s.reg.mapIdx fun _ r => { r with period := none, lastIm := 0 },
    sensing := s.sensing.mapIdx fun _ x => { x with history := [] },
    conv := { timer := none, pos := .idle },
    dist := { s.dist with
      wheel := ⟨s.dist.wheel.fl.park, s.dist.wheel.fr.park⟩,
      speed := 0, direction := .unknown, referenceSpeed := 0, driveTimer := none } }
  cancelTests s

/-- A falling edge of SELN wakes a parked part (R163, R164). -/
def wakePart (s : State) : State :=
  let s := changePart .waking none .wake 0 s
  (s.setControl { s.control with wakeTimer := some (s.now + wakeTime) }).setConv
    { s.conv with timer := some (s.now + scanTime) }

/-- The wake timer expires (R164): the part enters Configuring; period and silence timers start, cross counts and run counts
return to 0, stores are absent, last accepted edges and periods are absent, speeds are 0 (R19, R32, R80, R102). -/
def endWaking (s : State) : State :=
  match s.control.wakeTimer with
  | none => s
  | some t =>
    let s := s.reachTime t
    let s := changePart .configuring none .wakingEnd 0 (s.setControl { s.control with wakeTimer := none })
    let wake (w : Wheel) : Wheel :=
      { w with lastEdge := none, period := none, speed := 0, cross := 0, silence := some (s.now + silenceTime) }
    { s with
      reg := s.reg.mapIdx fun _ r => { r with period := some (s.now + periodTime) },
      sensing := s.sensing.mapIdx fun _ x => { x with bad := 0, good := 0 },
      arbiter := s.arbiter.mapIdx fun _ a => { a with stored := none },
      dist := { s.dist with wheel := ⟨wake s.dist.wheel.fl, wake s.dist.wheel.fr⟩, speed := 0 } }

/-- A demand notice (R76, R158): in Running and Failsafe the demand timer restarts. -/
def demandNotice (s : State) : State :=
  if s.driving then
    s.setControl { s.control with demandTimer := some (s.now + 1000 * s.control.demandTimeout) }
  else s

end Sys2Proof.Machine
end

