-- ==== Sys2Proof/Machine/Requests.lean ====
section
/-! DEFINITION. The requests (chapters 1 to 10): the state test (R151), and what each request taken does, its reply last
(R176). -/

namespace Sys2Proof.Machine

/-- The state test of a request (R151): none when it is taken. -/
def stateTest (r : Request) (p : PartState) : Option Status :=
  match r with
  | .identify => none
  | .readEvents _ => none
  | _ =>
    match p with
    | .starting => some .notReady
    | .waking => some .notReady
    | .configuring =>
      match r with
      | .injectPreview _ => some .wrongState
      | .stop => some .wrongState
      | .halt => some .wrongState
      | .resume => some .wrongState
      | _ => none
    | .running =>
      match r with
      | .restart => some .wrongState
      | .setGeometry _ => some .wrongState
      | .setCorner _ => some .wrongState
      | .setCurve _ => some .wrongState
      | .setRegulation _ => some .wrongState
      | .setSafety _ => some .wrongState
      | .start => some .wrongState
      | .resume => some .wrongState
      | .park => some .wrongState
      | _ => none
    | .failsafe =>
      match r with
      | .setGeometry _ => some .wrongState
      | .setCorner _ => some .wrongState
      | .setCurve _ => some .wrongState
      | .setRegulation _ => some .wrongState
      | .setSafety _ => some .wrongState
      | .start => some .wrongState
      | .injectPreview _ => some .wrongState
      | .halt => some .wrongState
      | _ => none
    | .parked =>
      match r with
      | .readStatus => none
      | .restart => none
      | _ => some .wrongState

/-- Identify (R181). -/
def takeIdentify (tag : Byte) (s : State) : State := reply tag 0x01 .ok identifyPayload s

/-- ReadStatus (R165). -/
def takeReadStatus (tag : Byte) (s : State) : State := reply tag 0x02 .ok (statusPayload s) s

/-- ReadCorner (R87). -/
def takeReadCorner (tag corner : Byte) (s : State) : State :=
  match Corner.ofCode corner with
  | none => refuseValue tag 0x03 1 0 s
  | some c => reply tag 0x03 .ok (cornerPayload c s) s

/-- ReadEvents (R180). -/
def takeReadEvents (tag wanted : Byte) (s : State) : State :=
  if byteInRange 1 6 wanted then
    let r := takeEvents wanted.toNat s
    reply tag 0x04 .ok r.2 r.1
  else refuseValue tag 0x04 1 0 s

/-- A wheel's speed with a new geometry (R5): a Silent or Faulted wheel keeps 0. -/
def Wheel.respeed (ring : Ring) (w : Wheel) : Wheel :=
  { w with speed := if w.state = .valid then wheelSpeed (some ring) w.period else 0 }

/-- SetGeometry taken (R4, R5, R13). -/
def writeGeometry (r : GeometryRecord) (s : State) : State :=
  let ring : Ring := ⟨r.wheelbase.toNat, r.circumference.toNat, r.teeth.toNat⟩
  let d := { s.dist with
    ring := some ring, leadTime := r.leadTime.toNat, mergeDistance := r.mergeDistance.toNat,
    previewMinSpeed := r.previewMinSpeed.toNat,
    wheel := ⟨s.dist.wheel.fl.respeed ring, s.dist.wheel.fr.respeed ring⟩ }
  handSpeed s.dist.speed none (s.setDist d.withSpeed)

/-- SetGeometry (R4). -/
def takeSetGeometry (tag : Byte) (r : GeometryRecord) (s : State) : State :=
  match firstBad (geometryChecks r) with
  | some n => refuseValue tag 0x10 (byteOf n) 0 s
  | none => reply tag 0x10 .ok [] (writeGeometry r s)

/-- The named corner's sensing block after SetCorner (R23, R24). -/
def Sensing.write (r : CornerRecord) (x : Sensing) : Sensing :=
  let y := { x with enabled := r.enabled == 1, invert := r.invert == 1,
                    scale := some (r.travelZero.toNat, r.travelScale.toNat), history := [] }
  if r.enabled == 1 then y else { y with faulted := false, bad := 0, good := 0 }

/-- SetCorner (R23, R24). -/
def takeSetCorner (tag : Byte) (r : CornerRecord) (s : State) : State :=
  match firstBad (cornerChecks r), Corner.ofCode r.corner with
  | some n, _ => refuseValue tag 0x11 (byteOf n) 0 s
  | none, some c => reply tag 0x11 .ok [] (s.setSensing c ((s.sensing.get c).write r))
  | none, none => refuseValue tag 0x11 1 0 s

/-- The points of a SetCurve record as currents (R91). -/
def curveCurrents (r : CurveRecord) : Vector Nat 11 := ⟨(r.points.toList.map BitVec.toNat).toArray, by simp⟩

/-- SetCurve (R91 to R93). -/
def takeSetCurve (tag : Byte) (r : CurveRecord) (s : State) : State :=
  match firstBad (curveChecks r), Corner.ofCode r.corner with
  | some n, _ => refuseValue tag 0x12 (byteOf n) 0 s
  | none, none => refuseValue tag 0x12 1 0 s
  | none, some c =>
    match curveTurn r with
    | some k => reply tag 0x12 .badCurve [byteOf k] s
    | none => reply tag 0x12 .ok []
        (s.setMapper c { s.mapper.get c with curve := some (curveCurrents r) })

/-- The settings of a SetRegulation record (R104). -/
def Regulation.read (r : RegulationRecord) : Regulation :=
  { fixedLatency := r.fixedLatency == 1, probeInterval := r.probeInterval.toNat,
    probeCorners := ⟨Corner.fl.inSet r.probeCorners, Corner.fr.inSet r.probeCorners, Corner.rl.inSet r.probeCorners,
                     Corner.rr.inSet r.probeCorners⟩,
    ki := r.ki.toNat, kickStep := r.kickStep.toNat, kickTime := r.kickTime.toNat, quenchStep := r.quenchStep.toNat,
    quenchTime := r.quenchTime.toNat }

/-- SetRegulation (R104). -/
def takeSetRegulation (tag : Byte) (r : RegulationRecord) (s : State) : State :=
  match firstBad (regulationChecks r) with
  | some n => refuseValue tag 0x13 (byteOf n) 0 s
  | none => reply tag 0x13 .ok [] { s with regulation := Regulation.read r }

/-- The controller with a SetSafety record's settings (R157). -/
def Control.write (r : SafetyRecord) (x : Control) : Control :=
  { x with demandTimeout := r.demandTimeout.toNat, failsafeDemand := r.failsafeDemand.toNat,
           defaultDemand := ⟨r.defaultDemand.fl.toNat, r.defaultDemand.fr.toNat, r.defaultDemand.rl.toNat,
                             r.defaultDemand.rr.toNat⟩ }

/-- SetSafety (R157). -/
def takeSetSafety (tag : Byte) (r : SafetyRecord) (s : State) : State :=
  match firstBad (safetyChecks r) with
  | some n => refuseValue tag 0x14 (byteOf n) 0 s
  | none => reply tag 0x14 .ok [] (s.setControl (s.control.write r))

/-- SetProfile (R59, R60). -/
def takeSetProfile (tag profile : Byte) (steps : List StepRecord) (s : State) : State :=
  match badProfileField profile steps with
  | some (n, i) => refuseValue tag 0x20 (byteOf n) (byteOf i) s
  | none => reply tag 0x20 .ok [] (s.setPreview { s.preview with
      profiles := s.preview.profiles.setIfInBounds profile.toNat (some (steps.map readStep)) })

/-- The settings of a SetDetection record (R33). -/
def Detection.read (r : DetectionRecord) : Detection :=
  { tc1 := r.tc1.toNat, tc2 := r.tc2.toNat, tc3 := r.tc3.toNat, tr1 := r.tr1.toNat, tr2 := r.tr2.toNat,
    tr3 := r.tr3.toNat, hysteresis := r.hysteresis.toNat, windowMax := r.windowMax.toNat,
    mapC1 := cellOf r.mapC1, mapC2 := cellOf r.mapC2, mapC3 := cellOf r.mapC3,
    mapR1 := cellOf r.mapR1, mapR2 := cellOf r.mapR2, mapR3 := cellOf r.mapR3 }

/-- SetDetection (R33, R34). -/
def takeSetDetection (tag : Byte) (r : DetectionRecord) (s : State) : State :=
  match firstBad (detectionChecks s.preview r) with
  | some n => refuseValue tag 0x21 (byteOf n) 0 s
  | none => reply tag 0x21 .ok [] (s.setPreview { s.preview with detection := Detection.read r })

/-- A guard with a SetGuard record's settings (R81). -/
def Guard.write (r : GuardRecord) (g : Guard) : Guard :=
  { g with bumpBand := r.bumpBand.toNat, reboundBand := r.reboundBand.toNat, guardVel := r.guardVel.toNat,
           guardDemand := r.guardDemand.toNat, guardHold := r.guardHold.toNat }

/-- SetGuard (R81, R85). -/
def takeSetGuard (tag : Byte) (r : GuardRecord) (s : State) : State :=
  match firstBad (guardChecks r), Corner.ofCode r.corner with
  | some n, _ => refuseValue tag 0x22 (byteOf n) 0 s
  | none, none => refuseValue tag 0x22 1 0 s
  | none, some c =>
    let old := s.guard.get c
    reply tag 0x22 .ok [] (resetGuard c old (s.setGuard c (old.write r)))

/-- Start (R155). -/
def takeStart (tag : Byte) (s : State) : State :=
  match missingItems s with
  | [] => reply tag 0x30 .ok [] (enterRunning tag s)
  | items => reply tag 0x30 .incomplete items s

/-- Stop (R161). -/
def takeStop (tag : Byte) (s : State) : State := reply tag 0x31 .ok [] (stopPart tag s)

/-- Halt (R159). -/
def takeHalt (tag : Byte) (s : State) : State := reply tag 0x32 .ok [] (enterFailsafe .halt .halt tag s)

/-- Resume (R160). -/
def takeResume (tag : Byte) (s : State) : State :=
  if s.control.demandTimer.isSome then reply tag 0x33 .ok [] (resumeRunning tag s) else reply tag 0x33 .noDemand [] s

/-- Park (R162). -/
def takePark (tag : Byte) (s : State) : State :=
  if s.dist.speed = 0 then reply tag 0x34 .ok [] (parkPart tag s) else reply tag 0x34 .notStandstill [] s

/-- Restart (R153). -/
def takeRestart (tag : Byte) (s : State) : State := restartPart tag s

/-- One corner's value of a Demand record (R76). -/
def writeDemand (c : Corner) (h : Half) (s : State) : State :=
  match demandOf h with
  | none => s
  | some d => storeDemand c d s

/-- Demand (R75, R76). -/
def takeDemand (tag : Byte) (v : PerCorner Half) (s : State) : State :=
  let clamped := Corner.list.any fun c => demandClamped (v.get c)
  reply tag 0x40 (if clamped then .clamped else .ok) []
    (demandNotice (Corner.list.foldl (fun t c => writeDemand c (v.get c) t) s))

/-- DriveState (R14, R16, R51). DistanceLost is evaluated before the change of direction is handed to the preview block, in
the order of R14 (log 17). -/
def takeDriveState (tag direction : Byte) (speed : Quad) (s : State) : State :=
  match Travel.ofCode direction with
  | none => refuseValue tag 0x41 1 0 s
  | some d =>
    let clamped := maxSpeed < speed.toNat
    reply tag 0x41 (if clamped then .clamped else .ok) []
      (judgePreview (evalDistanceLost (s.setDist { s.dist with
        direction := d, referenceSpeed := min maxSpeed speed.toNat, driveTimer := some (s.now + driveStateTime) })))

/-- InjectPreview at one named corner (R55): the reply's three bytes. -/
def injectCorner (r : InjectRecord) (arrival : Odo) (c : Corner) (s : State) : State × List Byte :=
  if (s.sensing.get c).enabled then
    let e : Entry := { id := s.preview.nextId, arrival := arrival, cls := r.cls.toNat,
                       dir := (Dir.ofCode r.direction).getD .compression, profile := r.profile.toNat,
                       origin := .injected, source := none }
    let o := offerToQueue c e (drawId s)
    (o.1, [c.code, o.2.1.code, o.2.2])
  else (s, [c.code, Outcome.disabled.code, 0xFF])

/-- InjectPreview corner by corner in the order FL, FR, RL, RR (R55). -/
def injectCorners (r : InjectRecord) (arrival : Odo) : List Corner → State → State × List Byte
  | [], s => (s, [])
  | c :: cs, s =>
    let a := injectCorner r arrival c s
    let b := injectCorners r arrival cs a.1
    (b.1, a.2 ++ b.2)

/-- InjectPreview (R54, R55). -/
def takeInjectPreview (tag : Byte) (r : InjectRecord) (s : State) : State :=
  if !s.preview.active then reply tag 0x42 .previewInactive [] s
  else
    match firstBad (injectChecks s.preview r) with
    | some n => refuseValue tag 0x42 (byteOf n) 0 s
    | none =>
      let named := cornersOf r.corners
      if named.all fun c => !(s.sensing.get c).enabled then reply tag 0x42 .disabled [] s
      else
        let a := injectCorners r (s.dist.odometer + r.distance.setWidth 32) named s
        reply tag 0x42 .ok a.2 a.1

/-- ClearPreview at one named corner, with the reply's three bytes (R56). -/
def clearCorner (c : Corner) (s : State) : State × List Byte :=
  (emptyContext c (s.setQueue c []),
   [c.code, byteOf (s.queue.get c).length, flagByte (s.context.get c).isSome])

/-- ClearPreview corner by corner (R56). -/
def clearCorners : List Corner → State → State × List Byte
  | [], s => (s, [])
  | c :: cs, s =>
    let a := clearCorner c s
    let b := clearCorners cs a.1
    (b.1, a.2 ++ b.2)

/-- ClearPreview (R56). -/
def takeClearPreview (tag corners : Byte) (s : State) : State :=
  if isSomeCornerSet corners then
    let a := clearCorners (cornersOf corners) s
    reply tag 0x43 .ok a.2 a.1
  else refuseValue tag 0x43 1 0 s

/-- A CoilTest fills its corner's in-flight slot and makes one reservation (R171, R177). -/
def reserveTest (c : Corner) (tag : Byte) (s : State) : State :=
  s.setLink { s.link with
    inflight := s.link.inflight.set c (some tag), reservations := s.link.reservations + 1 }

/-- A CoilTest that goes to a test excitation (R140): answered Cancelled at once while the band is Hold. -/
def takeTestExcitation (tag : Byte) (c : Corner) (s : State) : State :=
  if s.supply.band = .hold then reply tag 0x44 .cancelled [] s
  else reserveTest c tag (s.setReg c (startTest (s.reg.get c)))

/-- A CoilTest at a corner, judged in the order of R127. -/
def takeCoilTestAt (tag : Byte) (c : Corner) (s : State) : State :=
  let r := s.reg.get c
  if (s.link.inflight.get c).isSome then reply tag 0x44 .busy [] s
  else if r.latched then reply tag 0x44 .latched [] s
  else if s.control.part = .configuring ∨ r.mode = .faulted then takeTestExcitation tag c s
  else if r.mode = .off then reply tag 0x44 .disabled [] s
  else if r.mode = .hold then reply tag 0x44 .cancelled [] s
  else if r.targetNow < 150 then reply tag 0x44 .lowCurrent [] s
  else reserveTest c tag (s.setReg c { r with testWaiting := true })

/-- CoilTest (R127). -/
def takeCoilTest (tag corner : Byte) (s : State) : State :=
  match Corner.ofCode corner with
  | none => refuseValue tag 0x44 1 0 s
  | some c => takeCoilTestAt tag c s

/-- A request that has passed its state test goes to its owning block (R175, check 5). -/
def runRequest (tag : Byte) (r : Request) (s : State) : State :=
  match r with
  | .identify => takeIdentify tag s
  | .readStatus => takeReadStatus tag s
  | .readCorner c => takeReadCorner tag c s
  | .readEvents n => takeReadEvents tag n s
  | .setGeometry x => takeSetGeometry tag x s
  | .setCorner x => takeSetCorner tag x s
  | .setCurve x => takeSetCurve tag x s
  | .setRegulation x => takeSetRegulation tag x s
  | .setSafety x => takeSetSafety tag x s
  | .setProfile p st => takeSetProfile tag p st s
  | .setDetection x => takeSetDetection tag x s
  | .setGuard x => takeSetGuard tag x s
  | .start => takeStart tag s
  | .stop => takeStop tag s
  | .halt => takeHalt tag s
  | .resume => takeResume tag s
  | .park => takePark tag s
  | .restart => takeRestart tag s
  | .demand v => takeDemand tag v s
  | .driveState d v => takeDriveState tag d v s
  | .injectPreview x => takeInjectPreview tag x s
  | .clearPreview c => takeClearPreview tag c s
  | .coilTest c => takeCoilTest tag c s

/-- A request whose check byte and kind are sound: length, state, values (R175, checks 3 to 5). -/
def judgeRequest (tag : Byte) (r : Request) (s : State) : State :=
  if r.lengthAllowed then
    match stateTest r s.control.part with
    | some st => reply tag r.kind st [] s
    | none => runRequest tag r s
  else reply tag r.kind .badLength [] s

/-- A drawn frame judged by the five checks in their order (R175). -/
def judgeFrame (f : Frame) (s : State) : State :=
  if crc8 f.covered ≠ f.check then placeReply 0xFF f.tag .badCheck [] s
  else
    match Link.lengths f.kind with
    | none => placeReply 0xFF f.tag .unknownKind [] s
    | some ls =>
      if f.length.toNat ∈ ls then
        match Link.readRequest f.kind f.payload with
        | some r => judgeRequest f.tag r s
        | none => placeReply 0xFF f.tag .unknownKind [] s
      else reply f.tag f.kind .badLength [] s

/-- The request processor draws while the inbound queue holds a frame and the sum of replies and reservations is below 4; the
first argument bounds the draws (R174). -/
def drawFrames : Nat → State → State
  | 0, s => s
  | k + 1, s =>
    match s.link.inbound with
    | [] => s
    | f :: rest =>
      if s.link.outstanding < 4 then drawFrames k (judgeFrame f (s.setLink { s.link with inbound := rest })) else s

/-- The request processor acts (R174). -/
def processor (s : State) : State := drawFrames s.link.inbound.length s

/-- A complete frame is offered to the inbound request queue (R170), and the processor may draw (R174). -/
def offerFrame (f : Frame) (s : State) : State :=
  if s.link.inbound.length < 2 then processor (s.setLink { s.link with inbound := s.link.inbound ++ [f] })
  else queueEvent (event .requestOverrun none 0 0 f.tag.toNat) s

/-- A whole frame reaches the inbound queue (log 1); while RESETN is low the link takes none (R166). -/
def arriveFrame (f : Frame) (s : State) : State := if s.resetLow then s else offerFrame f s

/-- A sound request reaches the processor: it is judged at once when no request waits before it and there is room for its
reply (R174); otherwise its frame is offered to the inbound queue (R170, log 1). While RESETN is low nothing reaches it
(R166). -/
def arrive (tag : Byte) (r : Request) (s : State) : State :=
  if s.resetLow then s
  else if s.link.inbound = [] ∧ s.link.outstanding < 4 then judgeRequest tag r s else offerFrame (r.frame tag) s

end Sys2Proof.Machine
end

