-- ==== Sys2Proof/Machine/LinkOps.lean ====
section
/-! DEFINITION. Transactions on the link (10.1 to 10.6): the edges of SELN, whole bytes, frame assembly. -/

namespace Sys2Proof.Machine

/-- The outbound frame fixed at a falling edge of SELN: the head reply, or the filler frame with a Summary (R172). -/
def LinkState.fixOutbound (sum : Byte) (l : LinkState) : Outbound :=
  match l.replies with
  | r :: _ => .reply r
  | [] => .filler sum

/-- The byte an outbound frame sends as byte n; after the frame every byte is 0x00 (R172). -/
def Outbound.byte (o : Outbound) (n : Nat) : Byte := o.bytes.getD n 0

/-- A transaction opens with an outbound frame; SDO presents the first byte (R166, R167). -/
def LinkState.begin (a : Assembly) (o : Outbound) (l : LinkState) : LinkState :=
  { l with selnLow := true, outbound := some o, sent := 0, sdo := some (o.byte 0), assembly := a, received := [] }

/-- A falling edge of SELN (R166, R172). In Parked it wakes the part, and the waking transaction's incoming bytes are ignored
(R163); whether the filler's Summary is fixed before or after the wake is open (log 5). With SELN already low there is no
falling edge (log 12). While RESETN is low only the level of SELN moves (R166). -/
def beginTransaction (s : State) : State :=
  if s.link.selnLow then s
  else if s.resetLow then s.setLink { s.link with selnLow := true }
  else if s.control.part = .parked then
    let t := wakePart (s.spend 1)
    let sum := if Config.choice s.choices % 2 = 0 then summary t else summary s
    t.setLink (t.link.begin .ignoring (t.link.fixOutbound sum))
  else s.setLink (s.link.begin .header (s.link.fixOutbound (summary s)))

/-- One byte shifted out (R166, R172). -/
def LinkState.shiftOut (o : Outbound) (l : LinkState) : LinkState :=
  { l with sdo := some (o.byte l.sent), sent := l.sent + 1 }

/-- Frame assembly takes a whole byte that does not complete a frame (R167). -/
def LinkState.takeByte (b : Byte) (l : LinkState) : LinkState :=
  let bs := l.received ++ [b]
  match l.assembly with
  | .header =>
    if l.received = [] ∧ b = 0 then { l with assembly := .ignoring }
    else if bs.length < 3 then { l with received := bs }
    else if b = 0 ∨ 48 < b.toNat then { l with assembly := .check, received := bs }
    else { l with assembly := .payload, received := bs }
  | .payload =>
    if bs.length < 3 + (l.received.getD 2 0).toNat then { l with received := bs }
    else { l with assembly := .check, received := bs }
  | .check => l
  | .idle => l
  | .padding => l
  | .ignoring => l

/-- The frame under assembly, closed by its check byte (R167). -/
def LinkState.frame (check : Byte) (l : LinkState) : Frame :=
  ⟨l.received.getD 0 0, l.received.getD 1 0, l.received.getD 2 0, l.received.drop 3, check⟩

/-- The last bit of a check byte is captured: frame assembly becomes Padding and the frame is offered (R167, R170). -/
def completeFrame (check : Byte) (s : State) : State :=
  offerFrame (s.link.frame check) (s.setLink { s.link with assembly := .padding, received := [] })

/-- A whole byte within a transaction (R166): one byte goes out, one is taken. With no transaction open SCK is ignored. -/
def wholeByte (b : Byte) (s : State) : State :=
  match s.link.outbound with
  | none => s
  | some o =>
    let s := s.setLink (s.link.shiftOut o)
    if s.link.assembly = .check then completeFrame b s else s.setLink (s.link.takeByte b)

/-- Whether the bytes received are those of an incomplete frame (R168). -/
def LinkState.incomplete (l : LinkState) : Bool :=
  (l.assembly = .header || l.assembly = .payload || l.assembly = .check) && !l.received.isEmpty

/-- FrameAborted for an incomplete frame at a rising edge of SELN (R168). -/
def abortFrame (s : State) : State :=
  if s.link.incomplete then queueEvent (event .frameAborted none 0 0 s.link.received.length) s else s

/-- The reply sent is removed, and ReplyTruncated is queued when it had not gone out (R173). -/
def removeReply (s : State) : State :=
  match s.link.outbound with
  | some (.reply r) =>
    let s := s.setLink { s.link with replies := s.link.replies.drop 1 }
    if s.link.sent < r.bytes.length then queueEvent (event .replyTruncated none 0 0 r.tag.toNat) s else s
  | _ => s

/-- SELN is high: no transaction, frame assembly Idle, SDO at high impedance (R166, R167). -/
def LinkState.release (l : LinkState) : LinkState :=
  { l with selnLow := false, outbound := none, sent := 0, sdo := none, assembly := .idle, received := [] }

/-- A rising edge of SELN (R168, R173, R174). With SELN already high there is no rising edge (log 12). -/
def endTransaction (s : State) : State :=
  if s.link.selnLow then
    let s := removeReply (abortFrame s)
    processor (s.setLink s.link.release)
  else s

end Sys2Proof.Machine
end

