-- ==== Sys2Proof/Machine/EventCommands.lean ====
section
/-! DEFINITION. The commands of the sensors, the converter, the coils and the timers (chapters 1, 2, 5, 7, 8, 9). -/

namespace Sys2Proof.Machine

/-- A probe timer expires: probe due becomes set (R122). With the timer stopped nothing expires (log 3). -/
def probeTimerDone (c : Corner) (s : State) : State :=
  match (s.reg.get c).probeTimer with
  | none => s
  | some t => (s.reachTime t).setReg c { s.reg.get c with probeTimer := none, probeDue := true }

/-- A pending target's apply time is reached (R120). With no apply time kept nothing is reached (log 3). -/
def applyTimeDone (c : Corner) (s : State) : State :=
  match (s.reg.get c).slot.bind (·.applyAt) with
  | none => s
  | some t => (s.reachTime t).setReg c (applyPending s.regulation (s.reg.get c))

/-- A recovery window expires and closes (R137). With the window closed nothing expires (log 3). -/
def recoveryDone (c : Corner) (s : State) : State :=
  match (s.reg.get c).recovery with
  | none => s
  | some t => (s.reachTime t).setReg c { s.reg.get c with recovery := none }

/-- WHEEL_PULSE (R3). -/
def execWheelPulse (wheel : Front) (stamp : Stamp) (s : State) : Host.Outcome State Fault Refusal := .next (wheelEdge wheel stamp s)

/-- SILENCE_EXPIRY (R9). -/
def execSilenceExpiry (wheel : Front) (s : State) : Host.Outcome State Fault Refusal := .next (silence wheel s)

/-- DRIVE_STATE_TIMEOUT (R15). -/
def execDriveStateTimeout (s : State) : Host.Outcome State Fault Refusal := .next (driveTimeout s)

/-- SCAN (R20). -/
def execScan (s : State) : Host.Outcome State Fault Refusal := .next (beginScan s)

/-- TRAVEL_CONVERSION (R25). -/
def execTravelConversion (raw : Count) (s : State) : Host.Outcome State Fault Refusal := .next (travelDone raw s)

/-- GUARD_HOLD_EXPIRY (R84). -/
def execGuardHoldExpiry (corner : Corner) (s : State) : Host.Outcome State Fault Refusal := .next (holdExpiry corner s)

/-- VBAT_CONVERSION (R144). -/
def execVbatConversion (raw : Count) (s : State) : Host.Outcome State Fault Refusal := .next (vbatDone raw s)

/-- PERIOD_EXPIRY (R102). -/
def execPeriodExpiry (corner : Corner) (im : Count) (s : State) : Host.Outcome State Fault Refusal := .next (periodExpiry corner im s)

/-- PROBE_TIMER_EXPIRY (R122). -/
def execProbeTimerExpiry (corner : Corner) (s : State) : Host.Outcome State Fault Refusal := .next (probeTimerDone corner s)

/-- APPLY_TIME (R120). -/
def execApplyTime (corner : Corner) (s : State) : Host.Outcome State Fault Refusal := .next (applyTimeDone corner s)

/-- RECOVERY_WINDOW_EXPIRY (R137). -/
def execRecoveryWindowExpiry (corner : Corner) (s : State) : Host.Outcome State Fault Refusal := .next (recoveryDone corner s)

/-- DEMAND_TIMEOUT (R158). -/
def execDemandTimeout (s : State) : Host.Outcome State Fault Refusal := .next (demandExpiry s)

end Sys2Proof.Machine
end

