-- ==== Sys2Proof/Machine/LinkCommands.lean ====
section
/-! DEFINITION. The commands of the link (chapter 10). -/

namespace Sys2Proof.Machine

/-- TRANSACTION_BEGIN (R172). -/
def execTransactionBegin (s : State) : Host.Outcome State Fault Refusal := .next (beginTransaction s)

/-- FRAME_COMPLETE (R170): the check byte is captured as the whole byte it is; under assembly in Check it completes the frame
and offers it (log 12). -/
def execFrameComplete (check : Byte) (s : State) : Host.Outcome State Fault Refusal := .next (wholeByte check s)

/-- NOP (R167): the whole byte 0x00, which as a transaction's first byte makes it a Nop (log 12). -/
def execNop (s : State) : Host.Outcome State Fault Refusal := .next (wholeByte 0x00 s)

/-- TRANSACTION_END (R173). -/
def execTransactionEnd (s : State) : Host.Outcome State Fault Refusal := .next (endTransaction s)

/-- UNKNOWN_KIND (R175): the frame reaches the inbound queue and is judged when it is drawn (log 1, log 20). -/
def execUnknownKind (f : Frame) (s : State) : Host.Outcome State Fault Refusal := .next (arriveFrame f s)

/-- WHOLE_BYTE (R166). -/
def execWholeByte (sdi : Byte) (s : State) : Host.Outcome State Fault Refusal := .next (wholeByte sdi s)

end Sys2Proof.Machine
end

