-- ==== Sys2Proof/Machine/RequestCommands.lean ====
section
/-! DEFINITION. The request commands: each is a sound request that reaches the request processor (log 1). -/

namespace Sys2Proof.Machine

/-- IDENTIFY (R181). -/
def execIdentify (tag : Byte) (s : State) : Host.Outcome State Fault Refusal := .next (arrive tag .identify s)

/-- READ_STATUS (R165). -/
def execReadStatus (tag : Byte) (s : State) : Host.Outcome State Fault Refusal := .next (arrive tag .readStatus s)

/-- READ_CORNER (R87). -/
def execReadCorner (tag corner : Byte) (s : State) : Host.Outcome State Fault Refusal :=
  .next (arrive tag (.readCorner corner) s)

/-- READ_EVENTS (R180). -/
def execReadEvents (tag wanted : Byte) (s : State) : Host.Outcome State Fault Refusal :=
  .next (arrive tag (.readEvents wanted) s)

/-- SET_GEOMETRY (R4). -/
def execSetGeometry (tag : Byte) (r : GeometryRecord) (s : State) : Host.Outcome State Fault Refusal :=
  .next (arrive tag (.setGeometry r) s)

/-- SET_CORNER (R23). -/
def execSetCorner (tag : Byte) (r : CornerRecord) (s : State) : Host.Outcome State Fault Refusal :=
  .next (arrive tag (.setCorner r) s)

/-- SET_CURVE (R91). -/
def execSetCurve (tag : Byte) (r : CurveRecord) (s : State) : Host.Outcome State Fault Refusal :=
  .next (arrive tag (.setCurve r) s)

/-- SET_REGULATION (R104). -/
def execSetRegulation (tag : Byte) (r : RegulationRecord) (s : State) : Host.Outcome State Fault Refusal :=
  .next (arrive tag (.setRegulation r) s)

/-- SET_SAFETY (R157). -/
def execSetSafety (tag : Byte) (r : SafetyRecord) (s : State) : Host.Outcome State Fault Refusal :=
  .next (arrive tag (.setSafety r) s)

/-- SET_PROFILE (R59). -/
def execSetProfile (tag profile : Byte) (steps : List StepRecord) (s : State) : Host.Outcome State Fault Refusal :=
  .next (arrive tag (.setProfile profile steps) s)

/-- SET_DETECTION (R33). -/
def execSetDetection (tag : Byte) (r : DetectionRecord) (s : State) : Host.Outcome State Fault Refusal :=
  .next (arrive tag (.setDetection r) s)

/-- SET_GUARD (R81). -/
def execSetGuard (tag : Byte) (r : GuardRecord) (s : State) : Host.Outcome State Fault Refusal :=
  .next (arrive tag (.setGuard r) s)

/-- START (R155). -/
def execStart (tag : Byte) (s : State) : Host.Outcome State Fault Refusal := .next (arrive tag .start s)

/-- STOP (R161). -/
def execStop (tag : Byte) (s : State) : Host.Outcome State Fault Refusal := .next (arrive tag .stop s)

/-- HALT (R159). -/
def execHalt (tag : Byte) (s : State) : Host.Outcome State Fault Refusal := .next (arrive tag .halt s)

/-- RESUME (R160). -/
def execResume (tag : Byte) (s : State) : Host.Outcome State Fault Refusal := .next (arrive tag .resume s)

/-- PARK (R162). -/
def execPark (tag : Byte) (s : State) : Host.Outcome State Fault Refusal := .next (arrive tag .park s)

/-- RESTART (R153). -/
def execRestart (tag : Byte) (s : State) : Host.Outcome State Fault Refusal := .next (arrive tag .restart s)

/-- DEMAND (R76). -/
def execDemand (tag : Byte) (values : PerCorner Half) (s : State) : Host.Outcome State Fault Refusal :=
  .next (arrive tag (.demand values) s)

/-- DRIVE_STATE (R14). -/
def execDriveState (tag direction : Byte) (speed : Quad) (s : State) : Host.Outcome State Fault Refusal :=
  .next (arrive tag (.driveState direction speed) s)

/-- INJECT_PREVIEW (R55). -/
def execInjectPreview (tag : Byte) (r : InjectRecord) (s : State) : Host.Outcome State Fault Refusal :=
  .next (arrive tag (.injectPreview r) s)

/-- CLEAR_PREVIEW (R56). -/
def execClearPreview (tag corners : Byte) (s : State) : Host.Outcome State Fault Refusal :=
  .next (arrive tag (.clearPreview corners) s)

/-- COIL_TEST (R127). -/
def execCoilTest (tag corner : Byte) (s : State) : Host.Outcome State Fault Refusal :=
  .next (arrive tag (.coilTest corner) s)

end Sys2Proof.Machine
end

