-- ==== Sys2Proof/Machine/Resets.lean ====
section
/-! DEFINITION. The commands of the resets and of the end of Starting and Waking (chapter 9). -/

namespace Sys2Proof.Machine

/-- POWER_ON (R152): every block takes its power-on values and Starting begins. -/
def execPowerOn (s : State) : Host.Outcome State Fault Refusal := .next (powerUp s)

/-- RESETN (R152): one edge of the line. Asserted, it holds the part at its reset values; the next RESETN releases it, and
Starting begins (log 10). -/
def execResetn (s : State) : Host.Outcome State Fault Refusal := .next (resetEdge s)

/-- STARTING_END (R152). -/
def execStartingEnd (s : State) : Host.Outcome State Fault Refusal := .next (endStarting s)

/-- WAKING_END (R164). -/
def execWakingEnd (s : State) : Host.Outcome State Fault Refusal := .next (endWaking s)

end Sys2Proof.Machine
end

