-- ==== Sys2Proof/Machine/Dispatch.lean ====
section
/-! DEFINITION. One arm per command, each the direct call of its meaning. -/

namespace Sys2Proof.Machine

def exec (i : Instr) (s : State) : Host.Outcome State Fault Refusal :=
  match i with
  | .powerOn => Sys2Proof.Machine.execPowerOn s
  | .resetn => Sys2Proof.Machine.execResetn s
  | .startingEnd => Sys2Proof.Machine.execStartingEnd s
  | .transactionBegin => Sys2Proof.Machine.execTransactionBegin s
  | .frameComplete check => Sys2Proof.Machine.execFrameComplete check s
  | .nop => Sys2Proof.Machine.execNop s
  | .transactionEnd => Sys2Proof.Machine.execTransactionEnd s
  | .unknownKind f => Sys2Proof.Machine.execUnknownKind f s
  | .identify tag => Sys2Proof.Machine.execIdentify tag s
  | .readStatus tag => Sys2Proof.Machine.execReadStatus tag s
  | .readCorner tag corner => Sys2Proof.Machine.execReadCorner tag corner s
  | .readEvents tag wanted => Sys2Proof.Machine.execReadEvents tag wanted s
  | .setGeometry tag r => Sys2Proof.Machine.execSetGeometry tag r s
  | .setCorner tag r => Sys2Proof.Machine.execSetCorner tag r s
  | .setCurve tag r => Sys2Proof.Machine.execSetCurve tag r s
  | .setRegulation tag r => Sys2Proof.Machine.execSetRegulation tag r s
  | .setSafety tag r => Sys2Proof.Machine.execSetSafety tag r s
  | .setProfile tag profile steps => Sys2Proof.Machine.execSetProfile tag profile steps s
  | .setDetection tag r => Sys2Proof.Machine.execSetDetection tag r s
  | .setGuard tag r => Sys2Proof.Machine.execSetGuard tag r s
  | .start tag => Sys2Proof.Machine.execStart tag s
  | .stop tag => Sys2Proof.Machine.execStop tag s
  | .halt tag => Sys2Proof.Machine.execHalt tag s
  | .resume tag => Sys2Proof.Machine.execResume tag s
  | .park tag => Sys2Proof.Machine.execPark tag s
  | .restart tag => Sys2Proof.Machine.execRestart tag s
  | .demand tag values => Sys2Proof.Machine.execDemand tag values s
  | .driveState tag direction speed => Sys2Proof.Machine.execDriveState tag direction speed s
  | .injectPreview tag r => Sys2Proof.Machine.execInjectPreview tag r s
  | .clearPreview tag corners => Sys2Proof.Machine.execClearPreview tag corners s
  | .coilTest tag corner => Sys2Proof.Machine.execCoilTest tag corner s
  | .wheelPulse wheel stamp => Sys2Proof.Machine.execWheelPulse wheel stamp s
  | .silenceExpiry wheel => Sys2Proof.Machine.execSilenceExpiry wheel s
  | .driveStateTimeout => Sys2Proof.Machine.execDriveStateTimeout s
  | .scan => Sys2Proof.Machine.execScan s
  | .travelConversion raw => Sys2Proof.Machine.execTravelConversion raw s
  | .guardHoldExpiry corner => Sys2Proof.Machine.execGuardHoldExpiry corner s
  | .vbatConversion raw => Sys2Proof.Machine.execVbatConversion raw s
  | .periodExpiry corner im => Sys2Proof.Machine.execPeriodExpiry corner im s
  | .probeTimerExpiry corner => Sys2Proof.Machine.execProbeTimerExpiry corner s
  | .applyTime corner => Sys2Proof.Machine.execApplyTime corner s
  | .recoveryWindowExpiry corner => Sys2Proof.Machine.execRecoveryWindowExpiry corner s
  | .demandTimeout => Sys2Proof.Machine.execDemandTimeout s
  | .wakingEnd => Sys2Proof.Machine.execWakingEnd s
  | .wholeByte sdi => Sys2Proof.Machine.execWholeByte sdi s

end Sys2Proof.Machine
end

