-- ==== Sys2Proof/Machine/Idle.lean ====
section
/-! DEFINITION. What an empty queue of commands lets happen: the expiry that is due, a conversion of the scan under way, or
one microsecond (log 2). -/

namespace Sys2Proof.Machine

/-- The expiry command of a timer, if the timer has reached its time. -/
def dueAt (now : Nat) (timer : Option Nat) (i : Instr) : List Instr :=
  match timer with
  | none => []
  | some t => if t ≤ now then [i] else []

/-- The expiries due at one corner; the Im of a period is free (log 7). -/
def dueAtCorner (s : State) (c : Corner) : List Instr :=
  let r := s.reg.get c
  dueAt s.now (s.guard.get c).timer (.guardHoldExpiry c) ++
  dueAt s.now r.period (.periodExpiry c (Config.senseIm s.choices)) ++
  dueAt s.now r.probeTimer (.probeTimerExpiry c) ++
  dueAt s.now (r.slot.bind (·.applyAt)) (.applyTime c) ++
  dueAt s.now r.recovery (.recoveryWindowExpiry c)

/-- The expiries due (R7, R15, R20, R84, R102, R120, R122, R137, R152, R158, R164). R20 lets no expiry of the scan timer come
while a scan is under way; a command may have moved the clock past it all the same, and then the model lets the conversions
still due complete first, late, and takes the overdue expiry after them (log 27). -/
def dueCommands (s : State) : List Instr :=
  dueAt s.now s.control.startTimer .startingEnd ++
  dueAt s.now s.control.wakeTimer .wakingEnd ++
  dueAt s.now s.control.demandTimer .demandTimeout ++
  dueAt s.now s.dist.driveTimer .driveStateTimeout ++
  dueAt s.now s.dist.wheel.fl.silence (.silenceExpiry .fl) ++
  dueAt s.now s.dist.wheel.fr.silence (.silenceExpiry .fr) ++
  (if s.conv.pos = .idle then dueAt s.now s.conv.timer .scan else []) ++
  Corner.list.flatMap (dueAtCorner s)

/-- The conversion that completes now on an empty queue, if one does: its time within the scan is free, but a scan ends
before the next expiry of the scan timer is taken (R20, log 7, log 27). -/
def conversionNow (s : State) : Option Instr :=
  let last := match s.conv.timer with
    | some t => t ≤ s.now + 1
    | none => false
  if Config.choice s.choices % 2 = 0 || last then
    match s.conv.pos with
    | .idle => none
    | .travel _ => some (.travelConversion (Config.rawCount s.choices))
    | .vbat => some (.vbatConversion (Config.rawCount s.choices))
  else none

/-- The step on an empty queue (log 2): one due expiry, in a free order (log 6); else a conversion (log 7); else 1 µs
passes. -/
def idle (s : State) : Host.Outcome State Fault Refusal :=
  match dueCommands s with
  | i :: is => exec ((i :: is).getD (Config.choice s.choices % (is.length + 1)) i) (s.spend 1)
  | [] =>
    match conversionNow s with
    | some i => exec i (s.spend 1)
    | none => .next { s with now := s.now + 1, choices := s.choices + 1 }

end Sys2Proof.Machine
end

