-- ==== Sys2Proof/WellFormed.lean ====
section
/-! DEFINITION. Well-formed commands: those that can occur on the link as the command names them. The machine gives every
command a meaning, well-formed or not (log 20). -/

namespace Sys2Proof

/-- A frame as frame assembly makes it: its payload has Length bytes, or none when Length is above 48 (R167), and its Kind
is not 0x00, which makes a Nop (R175). -/
def Frame.wf (f : Frame) : Bool :=
  (if 48 < f.length.toNat then f.payload.isEmpty else f.payload.length == f.length.toNat) && f.kind != 0

/-- Well-formed commands. UNKNOWN_KIND carries a frame whose Kind is no request code (R175); SET_PROFILE carries one to
six steps (R59). -/
def Instr.wf : Instr → Bool
  | .unknownKind f => f.wf && (Link.lengths f.kind).isNone
  | .setProfile _ _ steps => 1 ≤ steps.length && steps.length ≤ 6
  | _ => true

end Sys2Proof
end

