-- ==== Sys2Proof/Safety.lean ====
section
/-! DEFINITION. The terms in which claims about the machine are stated: a request as a command, when a request is judged at
once, and the invariants of the blocks. -/

namespace Sys2Proof

/-- A request with its Tag as the command of the table. -/
def Request.command (tag : Byte) : Request → Instr
  | .identify => .identify tag
  | .readStatus => .readStatus tag
  | .readCorner c => .readCorner tag c
  | .readEvents n => .readEvents tag n
  | .setGeometry r => .setGeometry tag r
  | .setCorner r => .setCorner tag r
  | .setCurve r => .setCurve tag r
  | .setRegulation r => .setRegulation tag r
  | .setSafety r => .setSafety tag r
  | .setProfile p steps => .setProfile tag p steps
  | .setDetection r => .setDetection tag r
  | .setGuard r => .setGuard tag r
  | .start => .start tag
  | .stop => .stop tag
  | .halt => .halt tag
  | .resume => .resume tag
  | .park => .park tag
  | .restart => .restart tag
  | .demand v => .demand tag v
  | .driveState d v => .driveState tag d v
  | .injectPreview r => .injectPreview tag r
  | .clearPreview c => .clearPreview tag c
  | .coilTest c => .coilTest tag c

/-- The ranges of a request's fields in the order of its chapter's table, each as (value, least, greatest): R4, R14, R23,
R56, R81, R87, R91, R104, R127, R157, R180, with the codes of R182. The requests whose fields carry other tests, or none, have
no list here. -/
def Request.ranges : Request → List (Nat × Nat × Nat)
  | .readCorner c => [(c.toNat, 0, 3)]
  | .readEvents n => [(n.toNat, 1, 6)]
  | .setGeometry r =>
    [(r.wheelbase.toNat, 2000, 4000), (r.circumference.toNat, 1500, 3000), (r.teeth.toNat, 20, 120),
     (r.leadTime.toNat, 0, 50), (r.mergeDistance.toNat, 0, 1000), (r.previewMinSpeed.toNat, 0, 20000)]
  | .setCorner r =>
    [(r.corner.toNat, 0, 3), (r.enabled.toNat, 0, 1), (r.travelZero.toNat, 0, 4095), (r.travelScale.toNat, 10, 200),
     (r.invert.toNat, 0, 1)]
  | .setCurve r => (r.corner.toNat, 0, 3) :: r.points.toList.map fun p => (p.toNat, 0, 2000)
  | .setRegulation r =>
    [(r.fixedLatency.toNat, 0, 1), (r.probeInterval.toNat, 20, 1000), (r.probeCorners.toNat, 0, 15),
     (r.ki.toNat, 0, 255), (r.kickStep.toNat, 0, 2000), (r.kickTime.toNat, 0, 20), (r.quenchStep.toNat, 0, 2000),
     (r.quenchTime.toNat, 0, 20)]
  | .setSafety r =>
    [(r.demandTimeout.toNat, 20, 1000), (r.failsafeDemand.toNat, 0, 1000), (r.defaultDemand.fl.toNat, 0, 1000),
     (r.defaultDemand.fr.toNat, 0, 1000), (r.defaultDemand.rl.toNat, 0, 1000), (r.defaultDemand.rr.toNat, 0, 1000)]
  | .setGuard r =>
    [(r.corner.toNat, 0, 3), (r.bumpBand.toNat, 0, 1500), (r.reboundBand.toNat, 0, 1500), (r.guardVel.toNat, 0, 5000),
     (r.guardDemand.toNat, 0, 1000), (r.guardHold.toNat, 0, 200)]
  | .driveState d _ => [(d.toNat, 0, 2)]
  | .clearPreview c => [(c.toNat, 1, 15)]
  | .coilTest c => [(c.toNat, 0, 3)]
  | .identify => []
  | .readStatus => []
  | .setProfile _ _ => []
  | .setDetection _ => []
  | .start => []
  | .stop => []
  | .halt => []
  | .resume => []
  | .park => []
  | .restart => []
  | .demand _ => []
  | .injectPreview _ => []

namespace Machine

/-- A request is judged at once: RESETN is high, no frame waits before it, and there is room for its reply (R166, R174). -/
abbrev State.Listening (s : State) : Prop := s.resetLow = false ∧ s.link.inbound = [] ∧ s.link.outstanding < 4

/-- A request is judged at once in a given part state. -/
abbrev State.ListeningIn (s : State) (p : PartState) : Prop := s.Listening ∧ s.control.part = p

/-- The reply queue with one more reply, as the part stands (R171, R183). -/
abbrev State.answered (s : State) (kind tag : Byte) (status : Status) (payload : List Byte) : List Reply :=
  s.link.replies ++ [⟨kind, tag, status, summary s, payload⟩]

/-- The Cancelled answers to the CoilTests in flight, one for each corner of a list that has one (R129, R141, R177). -/
def State.cancelledAnswers (s : State) (sum : Byte) (corners : List Corner) : List Reply :=
  corners.filterMap fun c => (s.link.inflight.get c).map fun tag => ⟨0xC4, tag, .cancelled, sum, []⟩

/-- A corner's mapper and regulator. -/
def State.outputs (s : State) (c : Corner) : Mapper × Regulator := (s.mapper.get c, s.reg.get c)

/-- What a resolved demand that goes from `old` to `new` makes of a mapper and its regulator: a changed demand goes through
the curve, and a changed current to the regulator (R73, R96, R97, R110). -/
def handOn (g : Regulation) (now : Nat) (old new : Option Nat) (p : Mapper × Regulator) : Mapper × Regulator :=
  match new, p.1.curve with
  | some d, some curve =>
    if old = some d ∨ p.1.last = some (mapCurrent curve d) then p
    else ({ p.1 with last := some (mapCurrent curve d) }, takeTarget g now (mapCurrent curve d) p.2)
  | _, _ => p

/-- What the hand-over of a recomputed vehicle speed makes of a state, `before` being the speed it replaces (R13, R48): an
unchanged speed is not handed on, and only the record of the moment is queued; at a changed one the maturity check acts at
each queue, and the record of the moment is queued, in some order (R178, log 5). -/
def SpeedHanded (before : Nat) (record : Option Event) (u v : State) : Prop :=
  (u.dist.speed = before → v = { u with link := record.elim u.link u.link.record }) ∧
  (u.dist.speed ≠ before → ∃ (n : Nat) (order : List (Corner ⊕ Event)),
    order.Perm ([Corner.fl, .fr, .rl, .rr].map Sum.inl ++ record.toList.map Sum.inr) ∧
    v = order.foldl (fun w x => match x with
        | .inl c => maturityCheck c w
        | .inr e => { w with link := w.link.record e }) { u with choices := n })

/-- What the preview-active flag's turning false makes of the blocks (R41, R52, R68): queues, contexts and windows are
emptied; at a corner that had a context the preview form goes and the demand it leaves is handed on; at any other corner
arbiter, mapper and regulator are kept. -/
def PreviewFlushed (v t : State) : Prop :=
  (∀ k, t.queue.get k = [] ∧ t.context.get k = none) ∧ (∀ f, t.window.get f = none) ∧
  (∀ k, v.context.get k = none → t.arbiter.get k = v.arbiter.get k ∧ t.outputs k = v.outputs k) ∧
  (∀ k a, v.context.get k ≠ none → a = { v.arbiter.get k with preview := none } →
    t.arbiter.get k = (if a.active then { a with level := some a.winner.1, resolved := a.winner.2 } else a) ∧
    t.outputs k = if a.active then handOn v.regulation v.now a.resolved a.winner.2 (v.outputs k) else v.outputs k) ∧
  t = { v with
    queue := t.queue, window := t.window, context := t.context, arbiter := t.arbiter, mapper := t.mapper, reg := t.reg }

/-- A two-byte field that may be absent (R182). -/
def wordOf : Option Nat → Half
  | none => 0xFFFF
  | some n => value16 n

/-- The first value of a list of (value, least, greatest) that lies out of its range stands at index i. -/
abbrev FirstOutside (fields : List (Nat × Nat × Nat)) (i : Nat) : Prop :=
  i < fields.length ∧ (∀ f ∈ fields.take i, f.2.1 ≤ f.1 ∧ f.1 ≤ f.2.2) ∧
  ∀ f ∈ (fields.drop i).take 1, f.1 < f.2.1 ∨ f.2.2 < f.1

/-- Every value of a list of (value, least, greatest) lies in its range. -/
abbrev AllInside (fields : List (Nat × Nat × Nat)) : Prop := ∀ f ∈ fields, f.2.1 ≤ f.1 ∧ f.1 ≤ f.2.2

/-- Commands one after another, stopping at the first that does not answer a next state. -/
def execAll : List Instr → State → Host.Outcome State Fault Refusal
  | [], s => .next s
  | i :: is, s =>
    match exec i s with
    | .next t => execAll is t
    | .fault r => .fault r
    | .refused r => .refused r

/-- The commands that clock a frame in: a whole byte for each byte before the check byte, then the check byte (R167). -/
def frameCommands (f : Frame) : List Instr := f.covered.map Instr.wholeByte ++ [.frameComplete f.check]

/-- The invariant of the link: the capacities of the queues (R170, R171, R178), the level of ATN (R179), one reservation for
each CoilTest in flight (R177), and no frame left waiting while there is room for its reply (R174). -/
abbrev LinkState.Sound (l : LinkState) : Prop :=
  l.inbound.length ≤ 2 ∧ l.replies.length + l.reservations ≤ 4 ∧ l.events.length ≤ 16 ∧
  l.atn = !l.events.isEmpty ∧
  l.reservations = (Corner.list.filter fun c => (l.inflight.get c).isSome).length ∧
  (l.inbound ≠ [] → l.replies.length + l.reservations = 4)

/-- The duty a mode fixes (R103): 0 in Off, Quench, Hold and Faulted, 1023 in Kick, 160 in Test. -/
def Mode.fixedDuty : Mode → Option Nat
  | .off => some 0
  | .regulating => none
  | .kick _ => some 1023
  | .quench _ => some 0
  | .probe _ _ => none
  | .hold => some 0
  | .test _ _ _ => some 160
  | .faulted => some 0

/-- Whether a mode is Faulted or a test excitation that returns to Faulted (R138, R141). -/
def Mode.keepsFault : Mode → Bool
  | .off => false
  | .regulating => false
  | .kick _ => false
  | .quench _ => false
  | .probe _ _ => false
  | .hold => false
  | .test _ _ ret => ret = .faulted
  | .faulted => true

/-- The invariant of a regulator: duty, trim, R_est, open-count and last Im in their ranges, and the fixed duty of its mode
in force (R102, R103, R107, R125, R134). -/
abbrev Regulator.Sound (r : Regulator) : Prop :=
  r.duty ≤ 1023 ∧ -256 ≤ r.trim ∧ r.trim ≤ 255 ∧ 1500 ≤ r.rEst ∧ r.rEst ≤ 12000 ∧ r.openCount ≤ 2 ∧ r.lastIm ≤ 4095 ∧
  (∀ d ∈ r.mode.fixedDuty, r.duty = d)

/-- The invariant of the preview blocks (R51, R52): the flag agrees with its three conditions, nothing is queued and nothing
runs while it is false, and no window is open outside Running. -/
abbrev State.PreviewSound (s : State) : Prop :=
  s.preview.active = previewCondition s ∧
  (s.preview.active = false → (∀ c, s.queue.get c = []) ∧ ∀ c, s.context.get c = none) ∧
  (s.control.part ≠ .running → ∀ f, s.window.get f = none)

/-- Each preview queue holds at most eight entries (R45). -/
abbrev State.QueuesBounded (s : State) : Prop := ∀ c, (s.queue.get c).length ≤ 8

/-- The invariant of the timers: which timer runs in which part state, and that the part is in Starting, with its timers
stopped, while RESETN is low (R7, R22, R102, R152, R158, R164). -/
abbrev State.TimersSound (s : State) : Prop :=
  s.control.startTimer.isSome = (decide (s.control.part = .starting) && !s.resetLow) ∧
  s.control.wakeTimer.isSome = decide (s.control.part = .waking) ∧
  (s.control.demandTimer.isSome → s.driving = true) ∧
  (s.control.part = .running → s.control.demandTimer.isSome) ∧
  s.conv.timer.isSome = !(s.resetLow || decide (s.control.part = .parked)) ∧
  (s.control.part = .parked → s.conv.pos = .idle) ∧
  (∀ c, (s.reg.get c).period.isSome = capturing s) ∧
  (∀ f, (s.dist.wheel.get f).silence.isSome = capturing s) ∧
  (s.resetLow = true → s.control.part = .starting)

/-- The invariant of the arbiters and guards (R72, R73, R78, R79, R83 to R86): an arbiter is Active exactly for an Enabled
corner in Running or Failsafe; an Active one holds the level and value of its highest active form, with the failsafe form
active exactly in Failsafe and the guard form active exactly while the guard is Engaged; an Idle one resolves nothing. -/
abbrev State.ArbitersSound (s : State) : Prop :=
  ∀ c, (s.arbiter.get c).active = (s.driving && (s.sensing.get c).enabled) ∧
    (if (s.arbiter.get c).active then
      (s.arbiter.get c).stored.isSome ∧
      (s.arbiter.get c).level = some (s.arbiter.get c).winner.1 ∧
      (s.arbiter.get c).resolved = (s.arbiter.get c).winner.2 ∧
      (s.arbiter.get c).failsafe = (if s.control.part = .failsafe then some s.control.failsafeDemand else none) ∧
      (s.arbiter.get c).guard = (s.guard.get c).engaged.map (fun _ => (s.guard.get c).guardDemand)
    else
      (s.arbiter.get c).level = none ∧ (s.arbiter.get c).resolved = none ∧ (s.guard.get c).engaged = none)

/-- The whole-millimetre distance of an entry ahead of a base. -/
def ahead (base : Odo) (e : Entry) : Nat := (e.arrival - base).toNat

/-- Entries within 2^31 mm ahead of a base, in ascending order of arrival and pairwise more than `merge` apart (R2, R45). -/
abbrev Spaced (merge : Nat) (base : Odo) (q : List Entry) : Prop :=
  (∀ e ∈ q, ahead base e < 2 ^ 31) ∧ q.Pairwise fun a b => ahead base a + merge < ahead base b

end Machine

end Sys2Proof
end

