-- ==== Sys2Proof/Certificates/Slice0/Obligations.lean ====
section
/-! DEFINITION. The statements for the provers. -/

open Sys2Proof Sys2Proof.Machine

/-! ### Steps, time, resets -/

/-- One step takes the command at the front of the queue and runs it with the queue's rest. The queue of commands, first
in, first out, is the model's choice (log 1): the spec names none, it says only that a block acts on what reaches it. -/
def Obligations.StepTakesFrontCommand : Prop :=
  ∀ (c : Instr) (rest : List Instr) (s : State),
    step { s with pending := c :: rest } = exec c { s with pending := rest }

/-- Every command answers a next state, leaves the queue of commands alone, and never turns the clock back. The clock
is the model's (log 2). -/
def Obligations.CommandsCompleteInTime : Prop :=
  ∀ (c : Instr) (s : State), ∃ t, exec c s = .next t ∧ t.pending = s.pending ∧ s.now ≤ t.now

/-- What power-on and RESETN leave in every block: at RESETN's assertion, and at a power-on with the line low, the
reset values with every timer stopped and every driver at duty 0; at its release, and at a power-on with the line
high, Starting with its timers and the self-test (R18, R31, R42, R57, R58, R71, R80, R81, R86, R101, R104, R131, R142,
R143, R145, R152, R157, R166). While the line is low every other command leaves the part as it is, but for the level
of SELN. That RESETN is one edge a command and that the clock and the level of SELN stay as they were is the model's
choice (log 10), the high impedance of SDO with SELN low its reading (log 13), the clock at a pulse its choice (log
4). -/
def Obligations.ResetValues : Prop :=
  (∀ (c : Instr) (s : State) (held : Bool),
    (c = .powerOn ∧ held = s.resetLow) ∨ (c = .resetn ∧ held = !s.resetLow) → ∃ t, exec c s = .next t ∧
    t.resetLow = held ∧ t.pending = s.pending ∧ t.now = s.now ∧ t.choices = s.choices ∧
    t.control = {
      part := .starting, cause := none, startTimer := if held then none else some (s.now + 12000), wakeTimer := none,
      demandTimer := none, demandTimeout := 100, failsafeDemand := 600, defaultDemand := ⟨500, 500, 500, 500⟩ } ∧
    (∀ f, t.dist.wheel.get f = {
      lastEdge := none, period := none, state := .valid, speed := 0, cross := 0, restore := 0,
      silence := if held then none else some (s.now + 250000) }) ∧
    t.dist.odometer = 0 ∧ t.dist.fraction = 0 ∧ t.dist.speed = 0 ∧ t.dist.ring = none ∧ t.dist.leadTime = 15 ∧
    t.dist.mergeDistance = 150 ∧ t.dist.previewMinSpeed = 2500 ∧ t.dist.direction = .unknown ∧
    t.dist.referenceSpeed = 0 ∧ t.dist.lost = false ∧ t.dist.driveTimer = none ∧
    t.conv = { timer := if held then none else some (s.now + 1000), pos := .idle } ∧
    (∀ k, t.sensing.get k = {
      enabled := false, invert := false, scale := none, faulted := false, bad := 0, good := 0, history := [] }) ∧
    t.preview.detection = {
      tc1 := 600, tc2 := 1200, tc3 := 2000, tr1 := 500, tr2 := 1000, tr3 := 1800,
      hysteresis := 100, windowMax := 300, mapC1 := none, mapC2 := none, mapC3 := none, mapR1 := none, mapR2 := none,
      mapR3 := none } ∧
    t.preview.nextId = 0 ∧ t.preview.active = false ∧ (∀ n, t.preview.profile n = none) ∧
    (∀ f, t.window.get f = none) ∧ (∀ k, t.queue.get k = []) ∧ (∀ k, t.context.get k = none) ∧
    (∀ k, t.arbiter.get k = {
      active := false, stored := none, preview := none, guard := none, failsafe := none, level := none,
      resolved := none }) ∧
    (∀ k, t.guard.get k = {
      bumpBand := 0, reboundBand := 0, guardVel := 0, guardDemand := 1000, guardHold := 30, engaged := none,
      timer := none }) ∧
    (∀ k, t.mapper.get k = { curve := none, last := none }) ∧
    t.regulation = {
      fixedLatency := false, probeInterval := 100, probeCorners := ⟨true, true, true, true⟩, ki := 64,
      kickStep := 300, kickTime := 6, quenchStep := 300, quenchTime := 6 } ∧
    (∀ k, t.reg.get k = {
      mode := if held then .off else .test 0 0 .off, period := if held then none else some (s.now + 500),
      target := none, slot := none, duty := if held then 0 else 160, trim := 0, rEst := 4000, lastIm := 0,
      probeTimer := none, probeDue := false, testWaiting := false, fault := none, openCount := 0, latched := false,
      recovery := none }) ∧
    t.supply = { vbat := none, band := .normal } ∧
    t.link = {
      selnLow := s.link.selnLow, sdo := none, outbound := none, sent := 0, assembly := .idle, received := [],
      inbound := [], replies := [], reservations := 0, events := [], overflow := false, atn := false,
      inflight := ⟨none, none, none, none⟩ }) ∧
  (∀ (c : Instr) (s u : State), s.resetLow = false → exec .resetn s = .next u → c ≠ .resetn →
    ∃ t, exec c u = .next t ∧ t = { u with
      now := t.now,
      link := { u.link with selnLow := match c with
        | .transactionBegin => true
        | .transactionEnd => false
        | _ => u.link.selnLow } })

/-- The start timer and the wake timer take the part into Configuring, with StateChanged (cause StartingEnd or
WakingEnd, value 0). At the end of Starting nothing else changes; at the end of Waking the period and silence timers
start, cross counts and run counts are 0, edges, periods and stores absent, and speeds 0 (R19, R32, R80, R102, R150,
R152, R164). The clock at an expiry is the model's (log 3). -/
def Obligations.TimersEnterConfiguring : Prop :=
  (∀ (s : State) (T : Nat), s.control.startTimer = some T → exec .startingEnd s = .next { s with
    now := max s.now T,
    control := { s.control with part := .configuring, cause := none, startTimer := none },
    link := s.link.record ⟨.stateChanged, none, 1, 0, 0, 1⟩ }) ∧
  (∀ (s : State) (T : Nat), s.control.wakeTimer = some T → ∃ t, exec .wakingEnd s = .next t ∧
    t.now = max s.now T ∧
    t.control = { s.control with part := .configuring, cause := none, wakeTimer := none } ∧
    t.link = s.link.record ⟨.stateChanged, none, 1, 8, 0, 1⟩ ∧
    (∀ k, t.reg.get k = { s.reg.get k with period := some (max s.now T + 500) }) ∧
    (∀ k, t.sensing.get k = { s.sensing.get k with bad := 0, good := 0 }) ∧
    (∀ k, t.arbiter.get k = { s.arbiter.get k with stored := none }) ∧
    (∀ f, t.dist.wheel.get f = { s.dist.wheel.get f with
      lastEdge := none, period := none, speed := 0, cross := 0, silence := some (max s.now T + 250000) }) ∧
    t = { s with
      now := t.now, control := t.control, link := t.link, reg := t.reg, sensing := t.sensing, arbiter := t.arbiter,
      dist := { s.dist with wheel := t.dist.wheel, speed := 0 } })

/-! ### The link -/

/-- While RESETN is low a falling edge of SELN only moves its level. With RESETN high and outside Parked a falling
edge of SELN opens a transaction: the outbound frame is the head reply, or the filler frame with the Summary of this
moment, SDO presents its first byte, assembly is Header with nothing received, and nothing else changes (R166, R167,
R172). -/
def Obligations.FallingEdgeOpensTransaction : Prop :=
  ∀ s : State, s.link.selnLow = false →
    (s.resetLow = true → exec .transactionBegin s = .next { s with link := { s.link with selnLow := true } }) ∧
    (s.resetLow = false → s.control.part ≠ .parked →
    (∀ r rest, s.link.replies = r :: rest → exec .transactionBegin s = .next { s with link := { s.link with
      selnLow := true, outbound := some (.reply r), sent := 0, sdo := some r.kind, assembly := .header,
      received := [] } }) ∧
    (s.link.replies = [] → exec .transactionBegin s = .next { s with link := { s.link with
      selnLow := true, outbound := some (.filler (summary s)), sent := 0, sdo := some 0x80, assembly := .header,
      received := [] } }))

/-- In Parked a falling edge of SELN wakes the part: Waking with its 2 ms timer, the scan timer started, StateChanged
(cause Wake, value 0), the head reply or a filler frame outbound, and the incoming bytes ignored; nothing else changes
(R163, R164). The filler's Summary is the one before or the one after the wake (log 5). -/
def Obligations.FallingEdgeWakesParked : Prop :=
  ∀ s : State, s.resetLow = false → s.link.selnLow = false → s.control.part = .parked →
    ∃ t, exec .transactionBegin s = .next t ∧
    t.control = { s.control with part := .waking, cause := none, wakeTimer := some (s.now + 2000) } ∧
    t.conv = { s.conv with timer := some (s.now + 1000) } ∧
    (∀ r rest, s.link.replies = r :: rest → t.link.outbound = some (.reply r) ∧ t.link.sdo = some r.kind) ∧
    (s.link.replies = [] → t.link.sdo = some 0x80 ∧ ∃ w : State, (w = s ∨ w = { s with
        control := { s.control with part := .waking }, link := s.link.record ⟨.stateChanged, none, 5, 7, 0, 1⟩ }) ∧
      t.link.outbound = some (.filler (summary w))) ∧
    t.link = { s.link.record ⟨.stateChanged, none, 5, 7, 0, 1⟩ with
      selnLow := true, outbound := t.link.outbound, sent := 0, sdo := t.link.sdo, assembly := .ignoring,
      received := [] } ∧
    t = { s with choices := t.choices, control := t.control, conv := t.conv, link := t.link }

/-- Bytes that carry no request: outside a transaction a whole byte changes nothing; in Padding and Ignoring, and in
Idle, as a Restart leaves a void transaction, it only shifts the next outgoing byte out, 0x00 after the frame's last
byte and throughout a void transaction; and a first byte of 0x00 makes the transaction a Nop, so that whatever bytes
follow only the outgoing bytes are shifted out (R153, R166, R167, R172). -/
def Obligations.BytesWithoutRequest : Prop :=
  ∀ s : State,
    (∀ b, s.link.outbound = none → exec (.wholeByte b) s = .next s) ∧
    (∀ b o, s.link.outbound = some o →
      s.link.assembly = .padding ∨ s.link.assembly = .ignoring ∨ s.link.assembly = .idle →
      exec (.wholeByte b) s = .next { s with link := { s.link with
        sdo := some (if s.link.sent < o.bytes.length then o.bytes.getD s.link.sent 0 else 0),
        sent := s.link.sent + 1 } }) ∧
    (∀ b, s.link.outbound = some .void → s.link.assembly = .idle →
      exec (.wholeByte b) s = .next { s with link := { s.link with sdo := some 0x00, sent := s.link.sent + 1 } }) ∧
    (∀ (o : Outbound) (bytes : List Byte), s.link.outbound = some o → s.link.assembly = .header →
      s.link.received = [] → ∃ t, execAll (.nop :: bytes.map Instr.wholeByte) s = .next t ∧
        t = { s with link := { s.link with
          assembly := .ignoring, sent := s.link.sent + 1 + bytes.length, sdo := t.link.sdo } })

/-- The link assembles every frame: its bytes clocked in one by one after a falling edge of SELN offer exactly that
frame to the inbound queue, whatever its Kind, Tag, Length and check byte (R166, R167). -/
def Obligations.LinkAssemblesEveryFrame : Prop :=
  ∀ (f : Frame) (s : State) (o : Outbound),
    f.wf = true → s.link.outbound = some o → s.link.assembly = .header → s.link.received = [] →
    execAll (frameCommands f) s = .next (offerFrame f { s with link := { s.link with
      sdo := some (o.byte (s.link.sent + f.covered.length)), sent := s.link.sent + f.covered.length + 1,
      assembly := .padding, received := [] } })

/-- A complete frame is offered to the inbound queue: dropped with RequestOverrun when it holds 2, placed at its tail
when it has a place, and drawn at once when it was empty and there is room for a reply (R170, R174). -/
def Obligations.CompleteFrameOffered : Prop :=
  ∀ (s : State) (o : Outbound) (check : Byte),
    s.link.outbound = some o → s.link.assembly = .check → 3 ≤ s.link.received.length →
    ∃ f : Frame, f.covered = s.link.received ∧ f.check = check ∧
    ∃ u : State, u = { s with link := { s.link with
      sdo := some (o.byte s.link.sent), sent := s.link.sent + 1, assembly := .padding, received := [] } } ∧
    (s.link.inbound.length = 2 →
      exec (.frameComplete check) s = .next { u with
        link := u.link.record ⟨.requestOverrun, none, 0, 0, f.tag.setWidth 16, 1⟩ }) ∧
    (s.link.inbound.length < 2 → 4 ≤ s.link.outstanding →
      exec (.frameComplete check) s = .next { u with link := { u.link with inbound := s.link.inbound ++ [f] } }) ∧
    (s.Listening → exec (.frameComplete check) s = .next (judgeFrame f u))

/-- A rising edge of SELN: an incomplete frame is discarded with FrameAborted, a reply that was being sent is removed,
with ReplyTruncated after it when it had not gone out, the transaction is over, and the processor may draw. It draws
the head of the inbound queue and then acts again, while a frame waits and the replies and reservations are below 4
(R167, R168, R173, R174). -/
def Obligations.RisingEdgeEndsTransaction : Prop :=
  (∀ (s : State) (l : LinkState), s.link.selnLow = true →
    l = (if (s.link.assembly = .header ∨ s.link.assembly = .payload ∨ s.link.assembly = .check) ∧ s.link.received ≠ []
         then s.link.record (event .frameAborted none 0 0 s.link.received.length) else s.link) →
    (∀ r, s.link.outbound = some (.reply r) → r.bytes.length ≤ s.link.sent →
      exec .transactionEnd s = .next (processor { s with link := { l with
        replies := l.replies.tail, selnLow := false, outbound := none, sent := 0, sdo := none, assembly := .idle,
        received := [] } })) ∧
    (∀ r, s.link.outbound = some (.reply r) → s.link.sent < r.bytes.length →
      exec .transactionEnd s = .next (processor { s with link := {
        LinkState.record (event .replyTruncated none 0 0 r.tag.toNat) { l with replies := l.replies.tail } with
        selnLow := false, outbound := none, sent := 0, sdo := none, assembly := .idle, received := [] } })) ∧
    ((∀ r, s.link.outbound ≠ some (.reply r)) →
      exec .transactionEnd s = .next (processor { s with link := { l with
        selnLow := false, outbound := none, sent := 0, sdo := none, assembly := .idle, received := [] } }))) ∧
  (∀ w : State, w.link.inbound = [] ∨ 4 ≤ w.link.outstanding → processor w = w) ∧
  (∀ (w : State) (f : Frame) (rest : List Frame), w.link.inbound = f :: rest → w.link.outstanding < 4 →
    processor w = processor (judgeFrame f { w with link := { w.link with inbound := rest } }))

/-- A frame drawn by the processor is judged by its check byte, its Kind and its Length, in that order; one that
passes is the request of its kind with its payload's fields (R175). The frame comes as an UNKNOWN_KIND row, whose
meaning on a frame of a known kind or with a bad check byte is the model's choice (log 1, log 20). -/
def Obligations.FrameChecksInOrder : Prop :=
  ∀ (f : Frame) (s : State), s.Listening →
    (crc8 f.covered ≠ f.check → exec (.unknownKind f) s = .next (placeReply 0xFF f.tag .badCheck [] s)) ∧
    (crc8 f.covered = f.check → Link.lengths f.kind = none →
      exec (.unknownKind f) s = .next (placeReply 0xFF f.tag .unknownKind [] s)) ∧
    (∀ ls, crc8 f.covered = f.check → Link.lengths f.kind = some ls → f.length.toNat ∉ ls →
      exec (.unknownKind f) s = .next (placeReply (f.kind + 0x80) f.tag .badLength [] s)) ∧
    (∀ ls, crc8 f.covered = f.check → Link.lengths f.kind = some ls → f.length.toNat ∈ ls →
      f.payload.length = f.length.toNat →
      ∃ r, Link.readRequest f.kind f.payload = some r ∧ r.kind = f.kind ∧
        exec (.unknownKind f) s = exec (r.command f.tag) s)

/-- Every request the kind table admits, laid out as a frame, is read back as that request, and its frame has the
effect of its command in every state (10.11, R169, R175). That a request's own row acts as its frame sent as an
UNKNOWN_KIND row is the model's choice (log 1, log 20). -/
def Obligations.RequestFramesReadBack : Prop :=
  ∀ (tag : Byte) (r : Request), r.lengthAllowed = true →
    (∃ ls, Link.lengths r.kind = some ls ∧ r.payload.length ∈ ls) ∧
    Link.readRequest r.kind r.payload = some r ∧
    ∀ s : State, exec (.unknownKind (r.frame tag)) s = exec (r.command tag) s

/-! ### Requests: tests, reports, settings -/

/-- The state test of every request (R151): the status with which a part state refuses it, none when it is taken. A
refusal changes nothing but the reply queue and comes before any test of values. -/
def Obligations.StateTestTable : Prop :=
  ∀ (tag : Byte) (r : Request) (s : State) (refusal : Option Status), s.Listening → r.lengthAllowed = true →
    refusal = (match s.control.part with
      | .starting => if r.kind ∈ [0x01, 0x04] then none else some .notReady
      | .waking => if r.kind ∈ [0x01, 0x04] then none else some .notReady
      | .configuring => if r.kind ∈ [0x31, 0x32, 0x33, 0x42] then some .wrongState else none
      | .running => if r.kind ∈ [0x10, 0x11, 0x12, 0x13, 0x14, 0x30, 0x33, 0x34, 0x35] then some .wrongState else none
      | .failsafe => if r.kind ∈ [0x10, 0x11, 0x12, 0x13, 0x14, 0x30, 0x32, 0x42] then some .wrongState else none
      | .parked => if r.kind ∈ [0x01, 0x02, 0x04, 0x35] then none else some .wrongState) →
    exec (r.command tag) s = .next (match refusal with
      | some status => { s with link := { s.link with
          replies := s.link.replies ++ [⟨r.kind + 0x80, tag, status, summary s, []⟩] } }
      | none => runRequest tag r s)

/-- Identify is answered Ok in every part state with part code 0x0410, design level 1 and link protocol level 1, and
changes nothing; the reply's Summary has the overflow mark in bit 7, the part state in bits 6 to 4 and the smaller of
15 and the number of records in bits 3 to 0 (R171, R175, R181, R183). -/
def Obligations.IdentifyAnswersAtOnce : Prop :=
  ∀ (tag : Byte) (s : State), s.Listening → exec (.identify tag) s = .next { s with
    link := { s.link with replies := s.link.replies ++ [⟨0x81, tag, .ok,
      BitVec.ofNat 8 ((if s.link.overflow then 128 else 0) + 16 * s.control.part.code.toNat +
        min 15 s.link.events.length),
      [0x04, 0x10, 0x01, 0x01]⟩] } }

/-- ReadStatus answers 37 bytes and changes nothing: each field of R165 at its place in the layout of 10.11. -/
def Obligations.ReadStatusReports : Prop :=
  ∀ (tag : Byte) (s : State), s.Listening → s.control.part ≠ .starting → s.control.part ≠ .waking →
    ∃ p : List Byte, exec (.readStatus tag) s = .next { s with
        link := { s.link with replies := s.link.replies ++ [⟨0x82, tag, .ok, summary s, p⟩] } } ∧
      p.length = 37 ∧
      p.take 2 = [s.control.part.code, failCauseCode s.control.cause] ∧
      (s.control.demandTimer = none → (p.drop 2).take 2 = [0xFF, 0xFF]) ∧
      (∀ T, s.control.demandTimer = some T → T ≤ s.now + 1000000 →
        Link.field2 p 2 = BitVec.ofNat 16 ((2 * (T - s.now) + 1000) / 2000)) ∧
      (p.drop 4).take 2 = [flagByte s.preview.active, s.dist.direction.code] ∧
      Link.field4 p 6 = BitVec.ofNat 32 s.dist.referenceSpeed ∧
      p.getD 10 0xFF = flagByte s.dist.lost ∧
      Link.field4 p 11 = BitVec.ofNat 32 s.dist.speed ∧
      Link.field4 p 15 = s.dist.odometer ∧
      (p.drop 19).take 4 = [s.dist.wheel.fl.state.code, s.dist.wheel.fr.state.code, flagByte s.dist.ring.isSome,
        s.supply.band.code] ∧
      (s.supply.vbat = none → (p.drop 23).take 2 = [0xFF, 0xFF]) ∧
      (∀ v, s.supply.vbat = some v → v ≤ 23994 → Link.field2 p 23 = BitVec.ofNat 16 v) ∧
      ∀ c : Corner, (p.drop (25 + 3 * c.code.toNat)).take 3 =
        [BitVec.ofNat 8 ((if (s.sensing.get c).enabled then 1 else 0) +
           (if (s.mapper.get c).curve.isSome then 2 else 0) + (if (s.reg.get c).latched then 4 else 0)),
         (s.reg.get c).mode.code, faultCode (s.reg.get c).fault]

/-- ReadCorner answers 62 bytes and changes nothing: each field of R87 at its place in the layout of 10.11 (R27, R44,
R70, R88, R89, R121, R182). -/
def Obligations.ReadCornerReports : Prop :=
  ∀ (tag : Byte) (c : Corner) (s : State), s.Listening →
    s.control.part = .configuring ∨ s.control.part = .running ∨ s.control.part = .failsafe →
    ∃ p : List Byte, exec (.readCorner tag c.code) s = .next { s with
        link := { s.link with replies := s.answered 0x83 tag .ok p } } ∧
      p.length = 62 ∧ p.getD 0 0xFF = c.code ∧
      p.getD 1 0 = BitVec.ofNat 8 ((if (s.sensing.get c).enabled then 1 else 0) +
        (if (s.arbiter.get c).active then 2 else 0) + (if (s.mapper.get c).curve.isSome then 4 else 0) +
        (if (s.reg.get c).latched then 8 else 0)) ∧
      Link.field2 p 2 = wordOf (s.arbiter.get c).stored ∧ Link.field2 p 4 = wordOf (s.arbiter.get c).failsafe ∧
      Link.field2 p 6 = wordOf (s.arbiter.get c).guard ∧
      (∀ f, (s.arbiter.get c).active = true → (s.arbiter.get c).preview = some f →
        p.getD 8 0xFF = f.mode.code ∧ Link.field2 p 9 = value16 f.demand ∧
        Link.field2 p 11 = value16 (match f.mode with
          | .set => f.demand
          | .floor => max f.demand ((s.arbiter.get c).stored.getD 0))) ∧
      ((s.arbiter.get c).preview = none → (p.drop 8).take 5 = [0xFF, 0xFF, 0xFF, 0xFF, 0xFF]) ∧
      p.getD 13 0 = ((s.arbiter.get c).level.map Level.code).getD 0xFF ∧
      Link.field2 p 14 = wordOf (s.arbiter.get c).resolved ∧
      p.getD 16 0xFF = ((s.guard.get c).engaged.map fun d => d.code + 1).getD 0 ∧
      ((s.guard.get c).timer = none → p.getD 17 0 = 0xFF) ∧
      (∀ T, (s.guard.get c).timer = some T → T ≤ s.now + 200000 →
        p.getD 17 0 = BitVec.ofNat 8 ((2 * (T - s.now) + 1000) / 2000)) ∧
      p.getD 18 0xFF = flagByte (s.sensing.get c).faulted ∧
      Link.field2 p 19 = ((s.sensing.get c).history.getLast?.map (BitVec.ofInt 16)).getD 0x8000 ∧
      (∀ a b d e z, (s.sensing.get c).history = [a, b, d, e, z] →
        Link.field4 p 21 = BitVec.ofInt 32 ((z - a) * 25)) ∧
      ((s.sensing.get c).history.length ≠ 5 → Link.field4 p 21 = 0x80000000) ∧
      p.getD 25 0 = BitVec.ofNat 8 (s.queue.get c).length ∧
      ((s.queue.get c) = [] → p.getD 26 0 = 0xFF ∧ Link.field4 p 27 = 0xFFFFFFFF ∧ Link.field4 p 31 = 0x80000000) ∧
      (∀ e es, s.queue.get c = e :: es → p.getD 26 0 = e.id ∧ Link.field4 p 27 = e.arrival ∧
        Link.field4 p 31 = e.arrival - s.dist.odometer) ∧
      (s.context.get c = none → (p.drop 35).take 11 = List.replicate 11 0) ∧
      (∀ x, s.context.get c = some x → (p.drop 35).take 9 = [1, BitVec.ofNat 8 x.profile, x.id, BitVec.ofNat 8 x.cls,
          x.dir.code, x.origin.code, (x.source.map fun f => f.corner.code).getD 0xFF, BitVec.ofNat 8 x.steps.length,
          BitVec.ofNat 8 x.index] ∧
        Link.field2 p 44 = (s.dist.odometer - x.start).setWidth 16) ∧
      p.getD 46 0 = (s.reg.get c).mode.code ∧ Link.field2 p 47 = wordOf (s.reg.get c).target ∧
      Link.field2 p 49 = wordOf ((s.reg.get c).slot.map (·.target)) ∧
      Link.field2 p 51 = wordOf (((s.reg.get c).slot.bind (·.applyAt)).map (· - s.now)) ∧
      Link.field2 p 53 = value16 (s.reg.get c).duty ∧ Link.field2 p 55 = BitVec.ofInt 16 (s.reg.get c).trim ∧
      Link.field2 p 57 = value16 (s.reg.get c).rEst ∧ Link.field2 p 59 = value16 (s.reg.get c).lastIm ∧
      p.getD 61 0xFF = faultCode (s.reg.get c).fault

/-- ReadEvents returns the oldest records, as many as it asks for or the queue holds, with the overflow mark as it
stood, in the layout of 10.11; records and mark are gone before the reply is placed, and ATN follows. Any number but 1
to 6 removes nothing and is refused with BadValue, field 1 (R180). -/
def Obligations.ReadEventsTakesOldest : Prop :=
  ∀ (tag wanted : Byte) (s u : State), s.Listening →
    u = { s with link := { s.link with
      events := s.link.events.drop wanted.toNat, overflow := false,
      atn := decide (wanted.toNat < s.link.events.length) } } →
    (1 ≤ wanted.toNat ∧ wanted.toNat ≤ 6 → exec (.readEvents tag wanted) s = .next { u with link := { u.link with
      replies := u.answered 0x84 tag .ok
        ([BitVec.ofNat 8 (min wanted.toNat s.link.events.length), if s.link.overflow then 1 else 0] ++
         (s.link.events.take wanted.toNat).flatMap fun e =>
           [e.kind.code, (e.corner.map Corner.code).getD 0xFF, e.detail1, e.detail2, e.value.extractLsb' 8 8,
            e.value.extractLsb' 0 8, BitVec.ofNat 8 e.count]) } }) ∧
    (wanted.toNat < 1 ∨ 6 < wanted.toNat → exec (.readEvents tag wanted) s = .next { s with
      link := { s.link with replies := s.answered 0x84 tag .badValue [1, 0] } })

/-- A request whose state test is passed and whose first field out of range is its field i + 1 is refused with
BadValue, that field's number and index 0, and changes nothing else (R4, R14, R23, R56, R81, R87, R91, R104, R127,
R157, R176, R180, R182). The numbers of SetCurve's points and of the single fields are the model's reading (log 19).
-/
def Obligations.FirstFieldOutOfRangeRefused : Prop :=
  ∀ (tag : Byte) (r : Request) (i : Nat) (s : State), s.Listening → stateTest r s.control.part = none →
    FirstOutside r.ranges i → exec (r.command tag) s = .next { s with
      link := { s.link with replies := s.answered (r.kind + 0x80) tag .badValue [BitVec.ofNat 8 (i + 1), 0] } }

/-- SetSafety, SetRegulation and SetDetection with every field in range replace every setting, are answered Ok, and
change nothing else; SetDetection is refused at its first field out of range, thresholds out of order and cells naming
an undefined profile among them (R33, R104, R157). -/
def Obligations.SettingsReplaced : Prop :=
  ∀ (tag : Byte) (s : State),
    (∀ r : SafetyRecord, s.ListeningIn .configuring → AllInside (Request.setSafety r).ranges →
      exec (.setSafety tag r) s = .next { s with
        control := { s.control with
          demandTimeout := r.demandTimeout.toNat, failsafeDemand := r.failsafeDemand.toNat,
          defaultDemand := ⟨r.defaultDemand.fl.toNat, r.defaultDemand.fr.toNat, r.defaultDemand.rl.toNat,
            r.defaultDemand.rr.toNat⟩ },
        link := { s.link with replies := s.answered 0x94 tag .ok [] } }) ∧
    (∀ r : RegulationRecord, s.ListeningIn .configuring → AllInside (Request.setRegulation r).ranges →
      exec (.setRegulation tag r) s = .next { s with
        regulation := {
          fixedLatency := decide (r.fixedLatency = 1), probeInterval := r.probeInterval.toNat,
          probeCorners := ⟨r.probeCorners.getLsbD 0, r.probeCorners.getLsbD 1, r.probeCorners.getLsbD 2,
            r.probeCorners.getLsbD 3⟩,
          ki := r.ki.toNat, kickStep := r.kickStep.toNat, kickTime := r.kickTime.toNat,
          quenchStep := r.quenchStep.toNat, quenchTime := r.quenchTime.toNat },
        link := { s.link with replies := s.answered 0x93 tag .ok [] } }) ∧
    (∀ (r : DetectionRecord) (ok : List Bool), s.Listening →
      s.control.part = .configuring ∨ s.control.part = .running ∨ s.control.part = .failsafe →
      ok = [decide (100 ≤ r.tc1.toNat ∧ r.tc1.toNat ≤ 5000),
        decide (100 ≤ r.tc2.toNat ∧ r.tc1.toNat < r.tc2.toNat ∧ r.tc2.toNat ≤ 5000),
        decide (100 ≤ r.tc3.toNat ∧ r.tc2.toNat < r.tc3.toNat ∧ r.tc3.toNat ≤ 5000),
        decide (100 ≤ r.tr1.toNat ∧ r.tr1.toNat ≤ 5000),
        decide (100 ≤ r.tr2.toNat ∧ r.tr1.toNat < r.tr2.toNat ∧ r.tr2.toNat ≤ 5000),
        decide (100 ≤ r.tr3.toNat ∧ r.tr2.toNat < r.tr3.toNat ∧ r.tr3.toNat ≤ 5000),
        decide (r.hysteresis.toNat ≤ 1000), decide (50 ≤ r.windowMax.toNat ∧ r.windowMax.toNat ≤ 1000)] ++
        [r.mapC1, r.mapC2, r.mapC3, r.mapR1, r.mapR2, r.mapR3].map (fun b =>
          b = 0xFF || (decide (b.toNat ≤ 7) && (s.preview.profile b.toNat).isSome)) →
      (ok.all id = true → exec (.setDetection tag r) s = .next { s with
        preview := { s.preview with detection := {
          tc1 := r.tc1.toNat, tc2 := r.tc2.toNat, tc3 := r.tc3.toNat, tr1 := r.tr1.toNat, tr2 := r.tr2.toNat,
          tr3 := r.tr3.toNat, hysteresis := r.hysteresis.toNat, windowMax := r.windowMax.toNat,
          mapC1 := if r.mapC1 = 0xFF then none else some r.mapC1.toNat,
          mapC2 := if r.mapC2 = 0xFF then none else some r.mapC2.toNat,
          mapC3 := if r.mapC3 = 0xFF then none else some r.mapC3.toNat,
          mapR1 := if r.mapR1 = 0xFF then none else some r.mapR1.toNat,
          mapR2 := if r.mapR2 = 0xFF then none else some r.mapR2.toNat,
          mapR3 := if r.mapR3 = 0xFF then none else some r.mapR3.toNat } },
        link := { s.link with replies := s.answered 0xA1 tag .ok [] } }) ∧
      (∀ i < 14, ok.getD i true = false → (∀ j < i, ok.getD j true = true) →
        exec (.setDetection tag r) s = .next { s with
          link := { s.link with replies := s.answered 0xA1 tag .badValue [BitVec.ofNat 8 (i + 1), 0] } }))

/-- SetProfile taken makes its profile defined with the steps given and leaves the other profiles alone; a profile
number above 7 is field 1, and the first step field out of range is named by its place in the step, from 2, and the
step's index (R58, R59, R60, R176). -/
def Obligations.ProfileWritten : Prop :=
  ∀ (tag profile : Byte) (steps : List StepRecord) (s : State) (fields : StepRecord → List (Nat × Nat × Nat)),
    s.Listening → s.control.part = .configuring ∨ s.control.part = .running ∨ s.control.part = .failsafe →
    1 ≤ steps.length → steps.length ≤ 6 →
    fields = (fun st => [(st.demand.toNat, 0, 1000), (st.mode.toNat, 0, 1), (st.length.toNat, 1, 5000)]) →
    (profile.toNat ≤ 7 → (∀ st ∈ steps, AllInside (fields st)) → ∃ t, exec (.setProfile tag profile steps) s = .next t ∧
      (∀ n, t.preview.profile n = if n = profile.toNat then
          some (steps.map fun st => ⟨st.demand.toNat, if st.mode = 1 then .floor else .set, st.length.toNat⟩)
        else s.preview.profile n) ∧
      t = { s with
        preview := { s.preview with profiles := t.preview.profiles },
        link := { s.link with replies := s.answered 0xA0 tag .ok [] } }) ∧
    (7 < profile.toNat → exec (.setProfile tag profile steps) s = .next { s with
      link := { s.link with replies := s.answered 0xA0 tag .badValue [1, 0] } }) ∧
    (∀ before st after i, profile.toNat ≤ 7 → steps = before ++ st :: after → (∀ x ∈ before, AllInside (fields x)) →
      FirstOutside (fields st) i → exec (.setProfile tag profile steps) s =
        .next (placeReply 0xA0 tag .badValue [BitVec.ofNat 8 (i + 2), BitVec.ofNat 8 before.length] s))

/-- SetGeometry taken writes the six fields and computes the wheel speeds and the vehicle speed again: a Valid wheel
with a period from it, any other wheel 0. In Configuring the queues are empty, and nothing else changes (R4, R5, R8,
R13). -/
def Obligations.GeometryWritten : Prop :=
  ∀ (tag : Byte) (r : GeometryRecord) (s : State) (speed : Wheel → Nat), s.ListeningIn .configuring →
    (∀ c, s.queue.get c = []) → AllInside (Request.setGeometry r).ranges →
    speed = (fun w => if w.state = .valid then
        match w.period with
        | some p => min 80000 ((2 * (r.circumference.toNat * 1000000) + r.teeth.toNat * p) / (2 * (r.teeth.toNat * p)))
        | none => 0
      else 0) →
    ∃ t, exec (.setGeometry tag r) s = .next t ∧
      t.dist = { s.dist with
        ring := some ⟨r.wheelbase.toNat, r.circumference.toNat, r.teeth.toNat⟩, leadTime := r.leadTime.toNat,
        mergeDistance := r.mergeDistance.toNat, previewMinSpeed := r.previewMinSpeed.toNat,
        wheel := ⟨{ s.dist.wheel.fl with speed := speed s.dist.wheel.fl },
          { s.dist.wheel.fr with speed := speed s.dist.wheel.fr }⟩,
        speed := if s.dist.wheel.fl.state = .faulted then speed s.dist.wheel.fr
          else if s.dist.wheel.fr.state = .faulted then speed s.dist.wheel.fl
          else (speed s.dist.wheel.fl + speed s.dist.wheel.fr) / 2 } ∧
      t = { s with
        choices := t.choices, dist := t.dist, link := { s.link with replies := s.answered 0x90 tag .ok [] } }

/-- SetCorner taken writes the named corner's setup and empties its history; a corner made not Enabled becomes Valid
with its run counts 0 (R23, R24). -/
def Obligations.CornerWritten : Prop :=
  ∀ (tag : Byte) (c : Corner) (r : CornerRecord) (s : State), s.ListeningIn .configuring → r.corner = c.code →
    AllInside (Request.setCorner r).ranges →
    exec (.setCorner tag r) s = .next { s with
      sensing := s.sensing.set c {
        enabled := decide (r.enabled = 1), invert := decide (r.invert = 1),
        scale := some (r.travelZero.toNat, r.travelScale.toNat), history := [],
        faulted := decide (r.enabled = 1) && (s.sensing.get c).faulted,
        bad := if r.enabled = 1 then (s.sensing.get c).bad else 0,
        good := if r.enabled = 1 then (s.sensing.get c).good else 0 },
      link := { s.link with replies := s.answered 0x91 tag .ok [] } }

/-- SetCurve with every point in range: a curve that never falls or never rises is taken; any other is refused with
BadCurve and the first point at which it turns back, and changes nothing (R91, R92, R93). -/
def Obligations.CurveWritten : Prop :=
  ∀ (tag : Byte) (c : Corner) (r : CurveRecord) (s : State) (oneWay : List Nat → Prop), s.ListeningIn .configuring →
    r.corner = c.code → AllInside (Request.setCurve r).ranges →
    oneWay = (fun l => l.Pairwise (· ≤ ·) ∨ l.Pairwise (· ≥ ·)) →
    (oneWay (r.points.toList.map (·.toNat)) → exec (.setCurve tag r) s = .next { s with
      mapper := s.mapper.set c { s.mapper.get c with curve := some (r.points.map (·.toNat)) },
      link := { s.link with replies := s.answered 0x92 tag .ok [] } }) ∧
    (∀ k, oneWay ((r.points.toList.map (·.toNat)).take k) → ¬ oneWay ((r.points.toList.map (·.toNat)).take (k + 1)) →
      exec (.setCurve tag r) s = .next { s with
        link := { s.link with replies := s.answered 0x92 tag .badCurve [BitVec.ofNat 8 k] } })

/-- SetGuard taken writes the named corner's settings. A Released guard stays Released; an Engaged one is released
when its band becomes 0, and otherwise hands a changed GuardDemand to its arbiter (R81, R85, R86). -/
def Obligations.GuardWritten : Prop :=
  ∀ (tag : Byte) (c : Corner) (r : GuardRecord) (s : State) (g : Guard) (a : Arbiter), s.Listening →
    s.control.part = .configuring ∨ s.control.part = .running ∨ s.control.part = .failsafe → r.corner = c.code →
    AllInside (Request.setGuard r).ranges → a = s.arbiter.get c →
    g = { s.guard.get c with
      bumpBand := r.bumpBand.toNat, reboundBand := r.reboundBand.toNat, guardVel := r.guardVel.toNat,
      guardDemand := r.guardDemand.toNat, guardHold := r.guardHold.toNat } →
    ∃ t, exec (.setGuard tag r) s = .next t ∧
      t.link = { s.link with replies := s.answered 0xA2 tag .ok [] } ∧
      (g.engaged = none ∨ ((∀ d, g.engaged = some d → (match d with
            | .compression => r.bumpBand
            | .rebound => r.reboundBand) ≠ 0) ∧ r.guardDemand.toNat = (s.guard.get c).guardDemand) →
        t = { s with guard := s.guard.set c g, link := t.link }) ∧
      (∀ d u, g.engaged = some d → (match d with
            | .compression => r.bumpBand
            | .rebound => r.reboundBand) = 0 →
        u = resolve c { s with
          guard := s.guard.set c { g with engaged := none, timer := none },
          arbiter := s.arbiter.set c { a with guard := none } } → t = { u with link := t.link }) ∧
      (∀ d u, g.engaged = some d → (match d with
            | .compression => r.bumpBand
            | .rebound => r.reboundBand) ≠ 0 → r.guardDemand.toNat ≠ (s.guard.get c).guardDemand →
        u = resolve c { s with
          guard := s.guard.set c g, arbiter := s.arbiter.set c { a with guard := some r.guardDemand.toNat } } →
        t = { u with link := t.link })

/-! ### Part states -/

/-- Start in Configuring: with items missing it is refused with Incomplete and the list of every missing item, and
nothing else changes; with none missing the part enters Running: StateChanged (cause Start, value the Tag), the demand
timer at DemandTimeout, each Enabled corner's arbiter Active at DefaultDemand with its mapper and regulator at the
curve's target, test excitations abandoned and their CoilTests answered Cancelled, a regulator that is not Faulted in
Regulating with trim and duty 0, or in Hold while the supply band is Hold, the preview flag judged (R77, R97, R112,
R141, R147, R155, R156). That StateChanged comes before the Cancelled answers is the model's reading (log 17). -/
def Obligations.StartChecksThenRuns : Prop :=
  ∀ (tag : Byte) (s : State) (items : List Byte) (kept : Corner → Regulator), s.ListeningIn .configuring →
    items = (if s.dist.ring = none then [0x00, 0xFF] else []) ++
      (if Corner.list.all (fun c => !(s.sensing.get c).enabled) then [0x01, 0xFF] else []) ++
      [Corner.fl, .fr, .rl, .rr].flatMap (fun c =>
        if (s.sensing.get c).enabled ∧ (s.mapper.get c).curve = none then [0x02, c.code] else []) →
    kept = (fun c => { s.reg.get c with
      mode := (match (s.reg.get c).mode with
        | .test _ _ ret => ret.mode
        | m => m),
      duty := (match (s.reg.get c).mode with
        | .test _ _ _ => 0
        | _ => (s.reg.get c).duty),
      testWaiting := (s.reg.get c).testWaiting && (s.link.inflight.get c).isNone }) →
    (items ≠ [] → exec (.start tag) s = .next { s with
      link := { s.link with replies := s.answered 0xB0 tag .incomplete items } }) ∧
    (items = [] → s.PreviewSound → (∀ c, (s.mapper.get c).last = none) →
      (∀ c, (s.sensing.get c).enabled = true → (kept c).mode = .off ∨ (kept c).mode = .faulted) →
      ∃ t, exec (.start tag) s = .next t ∧
        t.control = { s.control with
          part := .running, demandTimer := some (s.now + 1000 * s.control.demandTimeout) } ∧
        t.preview = { s.preview with active := decide (s.dist.direction = .forward) && !s.dist.lost } ∧
        (∀ c, (s.sensing.get c).enabled = false →
          t.arbiter.get c = s.arbiter.get c ∧ t.mapper.get c = s.mapper.get c ∧ t.reg.get c = kept c) ∧
        (∀ c curve d r, (s.sensing.get c).enabled = true → (s.mapper.get c).curve = some curve →
          d = s.control.defaultDemand.get c → r = { kept c with target := some (mapCurrent curve d) } →
          t.arbiter.get c = {
            active := true, stored := some d, preview := none, guard := none, failsafe := none, level := some .chassis,
            resolved := some d } ∧
          t.mapper.get c = { curve := some curve, last := some (mapCurrent curve d) } ∧
          t.reg.get c = if r.mode = .faulted then r
            else if s.supply.band = .hold then
              { r with
                mode := .hold, slot := none, duty := 0, trim := 0, probeTimer := none, probeDue := false,
                testWaiting := false, openCount := 0 }
            else
              { r with
                mode := .regulating, slot := none, duty := 0, trim := 0,
                probeTimer := if s.regulation.probeCorners.get c then some (s.now + 1000 * s.regulation.probeInterval)
                  else r.probeTimer,
                probeDue := false, testWaiting := false }) ∧
        (∃ order : List Corner, order.Perm [.fl, .fr, .rl, .rr] ∧
          t.link = { s.link.record ⟨.stateChanged, none, 2, 1, tag.setWidth 16, 1⟩ with
            replies := s.link.replies ++ s.cancelledAnswers (summary t) order ++ [⟨0xB0, tag, .ok, summary t, []⟩],
            reservations := t.link.reservations, inflight := ⟨none, none, none, none⟩ } ∧
          t.link.reservations = s.link.reservations -
            (Corner.list.filter fun k => (s.link.inflight.get k).isSome).length) ∧
        t = { s with
          choices := t.choices, control := t.control, preview := t.preview, arbiter := t.arbiter, mapper := t.mapper,
          reg := t.reg, link := t.link })

/-- What Stop and Park leave alike: queues, windows and contexts empty, arbiters reset, guards Released, last targets
absent, each regulator Off with trim 0, target absent and slot empty or Faulted with its target absent, every CoilTest
in flight answered Cancelled before the request's own reply; Stop also clears the latches, and Park stops the sampling
timers and is refused with NotStandstill at a vehicle speed other than 0 (R19, R32, R80, R86, R97, R102, R130, R141,
R143, R161, R162, R177, R184). That StateChanged comes before the Cancelled answers, which carry the new part state,
and that windows are abandoned whatever the preview flag was, is the model's reading (log 17). -/
def Obligations.StopAndParkLeaveRunning : Prop :=
  (∀ (tag : Byte) (s : State), s.Listening → s.control.part = .configuring ∨ s.control.part = .failsafe →
    s.dist.speed ≠ 0 → exec (.park tag) s = .next { s with
      link := { s.link with replies := s.answered 0xB4 tag .notStandstill [] } }) ∧
  ∀ (tag : Byte) (s : State) (c : Instr), s.Listening →
    (c = .stop tag ∧ (s.control.part = .running ∨ s.control.part = .failsafe)) ∨
    (c = .park tag ∧ (s.control.part = .configuring ∨ s.control.part = .failsafe) ∧ s.dist.speed = 0) →
    ∃ t, exec c s = .next t ∧
      t.control = { s.control with
        part := if c = .stop tag then .configuring else .parked, cause := none, demandTimer := none } ∧
      (∀ k, t.queue.get k = [] ∧ t.context.get k = none) ∧ (∀ f, t.window.get f = none) ∧
      t.preview = { s.preview with active := false } ∧
      (∀ k, t.arbiter.get k = {
        active := false, stored := none, preview := none, guard := none, failsafe := none, level := none,
        resolved := none }) ∧
      (∀ k, t.guard.get k = { s.guard.get k with engaged := none, timer := none }) ∧
      (∀ k, t.mapper.get k = { s.mapper.get k with last := none }) ∧
      (∀ k r, r = (if (s.reg.get k).mode.keepsFault then
            { s.reg.get k with
              mode := .faulted, duty := 0, trim := 0, target := none, slot := none, testWaiting := false,
              openCount := 0 }
          else
            { s.reg.get k with
              mode := .off, duty := 0, trim := 0, target := none, slot := none, probeTimer := none, probeDue := false,
              testWaiting := false, openCount := 0 }) →
        t.reg.get k = if c = .stop tag then { r with latched := false } else { r with period := none, lastIm := 0 }) ∧
      t.dist.direction = .unknown ∧ t.dist.driveTimer = none ∧
      (c = .stop tag → t.dist = { s.dist with direction := .unknown, driveTimer := none } ∧
        t.sensing = s.sensing ∧ t.conv = s.conv) ∧
      (c = .park tag → (∀ f, t.dist.wheel.get f = { s.dist.wheel.get f with
            lastEdge := none, period := none, speed := 0, silence := none }) ∧
        t.dist = { s.dist with
          wheel := t.dist.wheel, speed := 0, direction := .unknown, referenceSpeed := 0, driveTimer := none } ∧
        (∀ k, t.sensing.get k = { s.sensing.get k with history := [] }) ∧ t.conv = { timer := none, pos := .idle }) ∧
      (∃ order : List Corner, order.Perm [.fl, .fr, .rl, .rr] ∧
        t.link = { s.link.record ⟨.stateChanged, none, if c = .stop tag then 1 else 4, if c = .stop tag then 2 else 6,
            tag.setWidth 16, 1⟩ with
          replies := s.link.replies ++ s.cancelledAnswers (summary t) order ++
            [⟨if c = .stop tag then 0xB1 else 0xB4, tag, .ok, summary t, []⟩],
          reservations := t.link.reservations, inflight := ⟨none, none, none, none⟩ } ∧
        t.link.reservations = s.link.reservations -
          (Corner.list.filter fun k => (s.link.inflight.get k).isSome).length) ∧
      t = { s with
        choices := t.choices, control := t.control, dist := t.dist, conv := t.conv, sensing := t.sensing,
        preview := t.preview, window := t.window, queue := t.queue, context := t.context, arbiter := t.arbiter,
        guard := t.guard, mapper := t.mapper, reg := t.reg, link := t.link }

/-- Running enters Failsafe at a Halt and at the expiry of the demand timer: StateChanged with the cause and the Tag
or 0, the demand timer stopped, preview emptied, and every Active arbiter at level 3 with FailsafeDemand, which goes
to the mapper and the regulator at once, or after the demand that the emptied context leaves (the two reach the
arbiter in either order); an Idle arbiter's corner keeps both. An expiry outside Running, as in Failsafe, only stops
the timer (R73, R78, R96, R97, R158, R159). The clock at an expiry is the model's (log 3), and so is that windows are
abandoned also where the flag was already false (log 17). -/
def Obligations.FailsafeEntry : Prop :=
  (∀ (s : State) (T : Nat), s.control.part ≠ .running → s.control.demandTimer = some T →
    exec .demandTimeout s = .next { s with now := max s.now T, control := { s.control with demandTimer := none } }) ∧
  ∀ (tag : Byte) (s : State) (c : Instr) (now : Nat) (cause : FailCause), s.control.part = .running →
    (c = .halt tag ∧ s.Listening ∧ now = s.now ∧ cause = .halt) ∨
    (∃ T, c = .demandTimeout ∧ tag = 0 ∧ s.control.demandTimer = some T ∧ now = max s.now T ∧ cause = .demandTimeout) →
    ∃ t, exec c s = .next t ∧
      t.control = { s.control with part := .failsafe, cause := some cause, demandTimer := none } ∧
      t.preview = { s.preview with active := false } ∧
      (∀ k, t.queue.get k = [] ∧ t.context.get k = none) ∧ (∀ f, t.window.get f = none) ∧
      (∀ k a d old,
        a = (if (s.context.get k).isSome then { s.arbiter.get k with preview := none } else s.arbiter.get k) →
        d = some s.control.failsafeDemand → old = (s.arbiter.get k).resolved →
        t.arbiter.get k = (if a.active then { a with failsafe := d, level := some .failsafe, resolved := d } else a) ∧
        (a.active = false → t.outputs k = s.outputs k) ∧
        (a.active = true → t.outputs k = handOn s.regulation now old d (s.outputs k) ∨
          ((s.context.get k).isSome = true ∧ t.outputs k =
            handOn s.regulation now a.winner.2 d (handOn s.regulation now old a.winner.2 (s.outputs k))))) ∧
      t.link = { s.link.record ⟨.stateChanged, none, 3, if cause = .halt then 3 else 4, tag.setWidth 16, 1⟩ with
        replies := s.link.replies ++ if cause = .halt then [⟨0xB2, tag, .ok, summary t, []⟩] else [] } ∧
      t = { s with
        now := now, choices := t.choices, control := t.control, preview := t.preview, window := t.window,
        queue := t.queue, context := t.context, arbiter := t.arbiter, mapper := t.mapper, reg := t.reg, link := t.link }

/-- Resume in Failsafe: refused with NoDemand while the demand timer is stopped; admitted, the part is Running with
the timer running on, StateChanged (cause Resume, value the Tag), every Active arbiter without its failsafe form at
its highest other level, a changed demand handed to the mapper and the regulator, the other corners' kept, and the
preview flag judged (R73, R79, R96, R97, R160). -/
def Obligations.ResumeNeedsDemand : Prop :=
  ∀ (tag : Byte) (s : State), s.ListeningIn .failsafe →
    (s.control.demandTimer = none → exec (.resume tag) s = .next { s with
      link := { s.link with replies := s.answered 0xB3 tag .noDemand [] } }) ∧
    (s.control.demandTimer ≠ none → s.PreviewSound → ∃ t, exec (.resume tag) s = .next t ∧
      t.control = { s.control with part := .running, cause := none } ∧
      t.preview = { s.preview with active := decide (s.dist.direction = .forward) && !s.dist.lost } ∧
      (∀ k a, a = { s.arbiter.get k with failsafe := none } → t.arbiter.get k =
        (if a.active then { a with level := some a.winner.1, resolved := a.winner.2 } else s.arbiter.get k) ∧
        t.outputs k = if a.active then handOn s.regulation s.now a.resolved a.winner.2 (s.outputs k) else s.outputs k) ∧
      t.link = { s.link.record ⟨.stateChanged, none, 2, 5, tag.setWidth 16, 1⟩ with
        replies := s.link.replies ++ [⟨0xB3, tag, .ok, summary t, []⟩] } ∧
      t = { s with
        control := t.control, preview := t.preview, arbiter := t.arbiter, mapper := t.mapper, reg := t.reg,
        link := t.link })

/-- Restart resets the whole part; the transaction under way becomes void, and the Restart's own reply is the only
one, its Summary that of Starting with no record (R153, R183, R184). That the byte under way on SDO is finished is the
model's reading (log 13); that the clock and the level of SELN are kept is its choice (log 10). -/
def Obligations.RestartResets : Prop :=
  ∀ (tag : Byte) (s u : State), s.Listening →
    s.control.part = .configuring ∨ s.control.part = .failsafe ∨ s.control.part = .parked →
    u = State.resetAt s.now s.choices s.pending s.link.selnLow →
    exec (.restart tag) s = .next { u with
      link := { u.link with
        outbound := s.link.outbound.map fun _ => Outbound.void,
        sdo := if s.link.outbound.isSome then s.link.sdo else none,
        replies := [⟨0xB5, tag, .ok, 0x00, []⟩] } }

/-! ### Demands, curves, targets -/

/-- An Active arbiter resolves to its highest active level, failsafe, guard, preview or chassis, a Floor step counting
as the greater of its Demand and the stored demand; a changed value goes through the curve, and a changed current to
the regulator. An Idle arbiter resolves nothing (R69, R72, R73, R96, R97). -/
def Obligations.ArbiterResolves : Prop :=
  ∀ (c : Corner) (s : State) (a b : Arbiter), a = s.arbiter.get c →
    b = (match a.failsafe, a.guard, a.preview with
      | some d, _, _ => { a with level := some .failsafe, resolved := some d }
      | none, some d, _ => { a with level := some .guard, resolved := some d }
      | none, none, some f => { a with
          level := some .preview,
          resolved := some (if f.mode = .set then f.demand else max f.demand (a.stored.getD 0)) }
      | none, none, none => { a with level := some .chassis, resolved := a.stored }) →
    (a.active = false → resolve c s = s) ∧
    (a.active = true → b.resolved = none ∨ b.resolved = a.resolved →
      resolve c s = { s with arbiter := s.arbiter.set c b }) ∧
    (∀ d curve, a.active = true → b.resolved = some d → a.resolved ≠ some d → (s.mapper.get c).curve = some curve →
      ((s.mapper.get c).last = some (mapCurrent curve d) → resolve c s = { s with arbiter := s.arbiter.set c b }) ∧
      ((s.mapper.get c).last ≠ some (mapCurrent curve d) → resolve c s = { s with
        arbiter := s.arbiter.set c b,
        mapper := s.mapper.set c { curve := some curve, last := some (mapCurrent curve d) },
        reg := s.reg.set c (takeTarget s.regulation s.now (mapCurrent curve d) (s.reg.get c)) }))

/-- The target current of a demand on a curve of points up to 2000 mA: a multiple of 100 gives its own point; between
two points the current is the first point plus the rounded share of the step, away from zero on a half, and lies
between them; on a curve that never falls a greater demand never gives a smaller current, and the other way round
(R90, R94, R95). -/
def Obligations.CurveMapsDemand : Prop :=
  ∀ (curve : Vector Nat 11) (P : Nat → Nat), P = (fun k => curve.toList.getD k 0) →
    (∀ k ≤ 10, mapCurrent curve (100 * k) = P k) ∧
    (∀ k f, k ≤ 9 → f ≤ 100 →
      (P k ≤ P (k + 1) → mapCurrent curve (100 * k + f) = P k + (2 * ((P (k + 1) - P k) * f) + 100) / 200 ∧
        P k ≤ mapCurrent curve (100 * k + f) ∧ mapCurrent curve (100 * k + f) ≤ P (k + 1)) ∧
      (P (k + 1) ≤ P k → mapCurrent curve (100 * k + f) = P k - (2 * ((P k - P (k + 1)) * f) + 100) / 200 ∧
        P (k + 1) ≤ mapCurrent curve (100 * k + f) ∧ mapCurrent curve (100 * k + f) ≤ P k)) ∧
    (∀ D E, D ≤ E → E ≤ 1000 →
      (curve.toList.Pairwise (· ≤ ·) → mapCurrent curve D ≤ mapCurrent curve E) ∧
      (curve.toList.Pairwise (· ≥ ·) → mapCurrent curve E ≤ mapCurrent curve D))

/-- A target handed to a regulator is taken by its mode: stored in Off, Test, Faulted and, without FixedLatency, Hold,
whatever target was held; applied by the kick-or-quench test in Regulating; continued or turned in Kick and Quench;
kept in the pending slot in Probe and under FixedLatency, where a full slot keeps its apply time (R110, R111, R116 to
R119). -/
def Obligations.TargetTakenByMode : Prop :=
  ∀ (g : Regulation) (now new : Nat) (r : Regulator),
    (r.mode = .off ∨ r.mode = .faulted ∨ (∃ n sum ret, r.mode = .test n sum ret) ∨
        (r.mode = .hold ∧ g.fixedLatency = false) →
      takeTarget g now new r = { r with target := some new }) ∧
    ((∃ n sum, r.mode = .probe n sum) ∨ (g.fixedLatency = true ∧ (r.mode = .regulating ∨ (∃ n, r.mode = .kick n) ∨
        (∃ n, r.mode = .quench n) ∨ r.mode = .hold)) →
      takeTarget g now new r = { r with slot := some ⟨new, match r.slot with
        | some p => p.applyAt
        | none => if g.fixedLatency then some (now + 2000) else none⟩ }) ∧
    (∀ old test, r.target = some old → g.fixedLatency = false →
      test = (if 0 < g.kickStep ∧ 0 < g.kickTime ∧ old + g.kickStep ≤ new then
          { r with target := some new, mode := .kick 0, duty := 1023 }
        else if 0 < g.quenchStep ∧ 0 < g.quenchTime ∧ new + g.quenchStep ≤ old then
          { r with target := some new, mode := .quench 0, duty := 0, openCount := 0 }
        else { r with target := some new, mode := .regulating }) →
      (r.mode = .regulating → takeTarget g now new r = test) ∧
      ((∃ n, r.mode = .kick n) →
        takeTarget g now new r = if old ≤ new then { r with target := some new } else test) ∧
      ((∃ n, r.mode = .quench n) →
        takeTarget g now new r = if new ≤ old then { r with target := some new } else test))

/-- At its apply time a pending target leaves the slot and is applied by mode; in Probe it stays, without its time
(R111, R116, R117, R120). The clock at an expiry is the model's (log 3). -/
def Obligations.ApplyTimeByMode : Prop :=
  ∀ (c : Corner) (s : State) (g : Regulation) (r test : Regulator) (old new T : Nat),
    g = s.regulation → r = s.reg.get c → r.slot = some ⟨new, some T⟩ → r.target = some old →
    test = (if 0 < g.kickStep ∧ 0 < g.kickTime ∧ old + g.kickStep ≤ new then
        { r with slot := none, target := some new, mode := .kick 0, duty := 1023 }
      else if 0 < g.quenchStep ∧ 0 < g.quenchTime ∧ new + g.quenchStep ≤ old then
        { r with slot := none, target := some new, mode := .quench 0, duty := 0, openCount := 0 }
      else { r with slot := none, target := some new, mode := .regulating }) →
    exec (.applyTime c) s = .next { s with
      now := max s.now T,
      reg := s.reg.set c (match r.mode with
        | .regulating => test
        | .kick _ => if old ≤ new then { r with slot := none, target := some new } else test
        | .quench _ => if new ≤ old then { r with slot := none, target := some new } else test
        | .probe _ _ => { r with slot := some ⟨new, none⟩ }
        | .hold => { r with slot := none, target := some new }
        | .off => { r with slot := none, target := some new }
        | .test _ _ _ => { r with slot := none, target := some new }
        | .faulted => { r with slot := none, target := some new }) }

/-- Demand writes every store but those named Keep, clamps above 1000 with status Clamped, lets Active arbiters
resolve and hand a changed demand to the mapper and the regulator, and in Running and Failsafe restarts the demand
timer (R73, R75, R76, R96, R97, R158). -/
def Obligations.DemandWritesStores : Prop :=
  ∀ (tag : Byte) (v : PerCorner Half) (s : State) (status : Status), s.Listening →
    s.control.part = .configuring ∨ s.control.part = .running ∨ s.control.part = .failsafe →
    status = (if Corner.list.any fun c => decide (1000 < (v.get c).toNat ∧ (v.get c).toNat < 65535) then .clamped
      else .ok) →
    ∃ t, exec (.demand tag v) s = .next t ∧
      (∀ c a, a = { s.arbiter.get c with stored := some (min 1000 (v.get c).toNat) } → t.arbiter.get c =
        if (v.get c).toNat = 65535 then s.arbiter.get c
        else if a.active then { a with level := some a.winner.1, resolved := a.winner.2 }
        else a) ∧
      (∀ c a, a = { s.arbiter.get c with stored := some (min 1000 (v.get c).toNat) } → t.outputs c =
        if (v.get c).toNat = 65535 ∨ a.active = false then s.outputs c
        else handOn s.regulation s.now a.resolved a.winner.2 (s.outputs c)) ∧
      t.control = { s.control with
        demandTimer := if s.control.part = .configuring then s.control.demandTimer
          else some (s.now + 1000 * s.control.demandTimeout) } ∧
      t.link = { s.link with replies := s.answered 0xC0 tag status [] } ∧
      t = { s with arbiter := t.arbiter, mapper := t.mapper, reg := t.reg, control := t.control, link := t.link }

/-- DriveState with a Direction of Forward, Reverse or Neutral sets direction and ReferenceSpeed, restarts its timer
at 500 ms, and sets DistanceLost when both wheel speeds are 0 and ReferenceSpeed is 2000 or more; at its timer's
expiry the direction is Unknown. The preview flag follows, and turning false it empties queues, contexts and windows
(R14, R15, R16, R51, R52). That DistanceLost is recorded before the flag is judged is the model's reading (log 17);
the clock at an expiry is the model's (log 3). -/
def Obligations.DriveStateSetsDirection : Prop :=
  ∀ (tag direction : Byte) (speed : Quad) (s : State) (c : Instr) (dist : Distance) (lost : Bool) (link : LinkState)
    (now : Nat),
    (c = .driveState tag direction speed ∧ s.Listening ∧ direction.toNat ≤ 2 ∧
      (s.control.part = .configuring ∨ s.control.part = .running ∨ s.control.part = .failsafe) ∧
      lost = (!s.dist.lost && s.dist.wheel.fl.speed = 0 && s.dist.wheel.fr.speed = 0 && 2000 ≤ speed.toNat) ∧
      dist = { s.dist with
        direction := if direction = 0 then .forward else if direction = 1 then .reverse else .neutral,
        referenceSpeed := min 80000 speed.toNat, driveTimer := some (s.now + 500000), lost := lost || s.dist.lost } ∧
      now = s.now ∧
      link = (if lost then s.link.record (event .distanceLost none 0 0 (min 80000 speed.toNat)) else s.link)) ∨
    (∃ T, c = .driveStateTimeout ∧ s.dist.driveTimer = some T ∧
      dist = { s.dist with direction := .unknown, driveTimer := none } ∧ now = max s.now T ∧ link = s.link) →
    ∃ t, exec c s = .next t ∧ t.dist = dist ∧
      t.preview = { s.preview with
        active := decide (s.control.part = .running) && decide (dist.direction = .forward) && !dist.lost } ∧
      t.link = { link with replies := s.link.replies ++ if c = .driveStateTimeout then [] else
        [⟨0xC1, tag, if 80000 < speed.toNat then .clamped else .ok, summary t, []⟩] } ∧
      (t.preview.active = true ∨ s.preview.active = false →
        t = { s with now := now, dist := dist, preview := t.preview, link := t.link }) ∧
      (t.preview.active = false → s.preview.active = true →
        (∀ k, t.queue.get k = [] ∧ t.context.get k = none) ∧ (∀ f, t.window.get f = none) ∧
        (∀ k, s.context.get k = none → t.arbiter.get k = s.arbiter.get k ∧ t.outputs k = s.outputs k) ∧
        (∀ k a, s.context.get k ≠ none → a = { s.arbiter.get k with preview := none } → t.arbiter.get k =
          (if a.active then { a with level := some a.winner.1, resolved := a.winner.2 } else a) ∧
          t.outputs k = if a.active then handOn s.regulation now a.resolved a.winner.2 (s.outputs k) else s.outputs k) ∧
        t = { s with
          now := now, dist := dist, preview := t.preview, queue := t.queue, window := t.window, context := t.context,
          arbiter := t.arbiter, mapper := t.mapper, reg := t.reg, link := t.link })

/-! ### Preview -/

/-- InjectPreview in Running: refused with PreviewInactive while the flag is false, with BadValue at its first
offending field, with Disabled when it names no Enabled corner. Otherwise the named corners are taken in the order FL,
FR, RL, RR: at an Enabled one an entry draws the next Id and is offered to the queue, any other answers Disabled, and
the reply lists them. An entry for one Enabled corner with an empty queue and an empty context waits in the queue, or,
mature at once, starts its profile at step 0 (R43, R45, R48, R54, R55, R61, R62, R73, R96, R97). -/
def Obligations.InjectPreviewMakesEntry : Prop :=
  ∀ (tag : Byte) (r : InjectRecord) (s : State) (ok : List Bool), s.ListeningIn .running →
    ok = [decide (1 ≤ r.corners.toNat ∧ r.corners.toNat ≤ 15), decide (r.distance.toNat ≤ 60000),
      decide (1 ≤ r.cls.toNat ∧ r.cls.toNat ≤ 3), decide (r.direction.toNat ≤ 1),
      decide (r.profile.toNat ≤ 7) && (s.preview.profile r.profile.toNat).isSome] →
    (s.preview.active = false → exec (.injectPreview tag r) s = .next { s with
      link := { s.link with replies := s.answered 0xC2 tag .previewInactive [] } }) ∧
    (∀ i < 5, s.preview.active = true → ok.getD i true = false → (∀ j < i, ok.getD j true = true) →
      exec (.injectPreview tag r) s = .next { s with
        link := { s.link with replies := s.answered 0xC2 tag .badValue [BitVec.ofNat 8 (i + 1), 0] } }) ∧
    (s.preview.active = true → ok.all id = true →
      (∀ c : Corner, r.corners.getLsbD c.code.toNat = true → (s.sensing.get c).enabled = false) →
      exec (.injectPreview tag r) s = .next { s with
        link := { s.link with replies := s.answered 0xC2 tag .disabled [] } }) ∧
    (∀ (make : Byte → Entry) (offer : State × List Byte → Corner → State × List Byte) (all : State × List Byte),
      s.preview.active = true → ok.all id = true →
      (∃ c : Corner, r.corners.getLsbD c.code.toNat = true ∧ (s.sensing.get c).enabled = true) →
      make = (fun i => {
        id := i, arrival := s.dist.odometer + r.distance.setWidth 32, cls := r.cls.toNat,
        dir := if r.direction = 0 then .compression else .rebound, profile := r.profile.toNat, origin := .injected,
        source := none }) →
      offer = (fun p c =>
        if (s.sensing.get c).enabled then
          let o := offerToQueue c (make p.1.preview.nextId)
            { p.1 with preview := { p.1.preview with nextId := p.1.preview.nextId + 1 } }
          (o.1, p.2 ++ [c.code, o.2.1.code, o.2.2])
        else (p.1, p.2 ++ [c.code, 4, 0xFF])) →
      all = ([Corner.fl, .fr, .rl, .rr].filter fun c => r.corners.getLsbD c.code.toNat).foldl offer (s, []) →
      exec (.injectPreview tag r) s = .next { all.1 with
        link := { all.1.link with replies := all.1.answered 0xC2 tag .ok all.2 } }) ∧
    (∀ (c : Corner) (e : Entry) (steps : List ProfileStep), s.preview.active = true → ok.all id = true →
      (∀ d : Corner, r.corners.getLsbD d.code.toNat = decide (d = c)) → (s.sensing.get c).enabled = true →
      s.queue.get c = [] → s.context.get c = none → s.preview.profile r.profile.toNat = some steps →
      e = {
        id := s.preview.nextId, arrival := s.dist.odometer + r.distance.setWidth 32, cls := r.cls.toNat,
        dir := if r.direction = 0 then .compression else .rebound, profile := r.profile.toNat, origin := .injected,
        source := none } →
      (s.dist.speed * s.dist.leadTime / 1000 < r.distance.toNat → exec (.injectPreview tag r) s = .next { s with
        preview := { s.preview with nextId := s.preview.nextId + 1 }, queue := s.queue.set c [e],
        link := { s.link with replies := s.answered 0xC2 tag .ok [c.code, 0, e.id] } }) ∧
      (r.distance.toNat ≤ s.dist.speed * s.dist.leadTime / 1000 → ∃ t, exec (.injectPreview tag r) s = .next t ∧
        t.context = s.context.set c (some {
          profile := e.profile, steps := steps, index := 0, start := s.dist.odometer, cls := e.cls, id := e.id,
          dir := e.dir, origin := .injected, source := none }) ∧
        (∀ a : Arbiter, a = { s.arbiter.get c with
          preview := steps.head?.map fun st : ProfileStep => StepForm.mk st.demand st.mode } →
          t.arbiter = s.arbiter.set c
            (if a.active then { a with level := some a.winner.1, resolved := a.winner.2 } else a) ∧
          t.outputs c = (if a.active then handOn s.regulation s.now a.resolved a.winner.2 (s.outputs c)
            else s.outputs c)) ∧
        (∀ d, d ≠ c → t.outputs d = s.outputs d) ∧
        t = { s with
          preview := { s.preview with nextId := s.preview.nextId + 1 }, context := t.context, arbiter := t.arbiter,
          mapper := t.mapper, reg := t.reg,
          link := { s.link with replies := s.answered 0xC2 tag .ok [c.code, 5, e.id] } }))

/-- ClearPreview empties the queue and the context of every corner of its set, reports how many entries and whether a
context went, hands on the demand an emptied context leaves, and leaves the other corners alone (R56, R68, R73, R96,
R97). -/
def Obligations.ClearPreviewEmptiesCorners : Prop :=
  ∀ (tag corners : Byte) (s : State) (payload : List Byte), s.Listening →
    s.control.part = .configuring ∨ s.control.part = .running ∨ s.control.part = .failsafe →
    1 ≤ corners.toNat → corners.toNat ≤ 15 →
    payload = ((Corner.list.filter fun c => corners.getLsbD c.code.toNat).flatMap fun c =>
      [c.code, BitVec.ofNat 8 (s.queue.get c).length, if (s.context.get c).isSome then 1 else 0]) →
    ∃ t, exec (.clearPreview tag corners) s = .next t ∧
      (∀ c : Corner, corners.getLsbD c.code.toNat = false → t.queue.get c = s.queue.get c ∧
        t.context.get c = s.context.get c ∧ t.arbiter.get c = s.arbiter.get c ∧ t.outputs c = s.outputs c) ∧
      (∀ c : Corner, corners.getLsbD c.code.toNat = true → t.queue.get c = [] ∧ t.context.get c = none ∧
        ∀ a, a = { s.arbiter.get c with preview := none } →
          t.arbiter.get c = (if s.context.get c = none then s.arbiter.get c
            else if a.active then { a with level := some a.winner.1, resolved := a.winner.2 }
            else a) ∧
          t.outputs c = if s.context.get c = none ∨ a.active = false then s.outputs c
            else handOn s.regulation s.now a.resolved a.winner.2 (s.outputs c)) ∧
      t.link = { s.link with replies := s.answered 0xC3 tag .ok payload } ∧
      t = { s with
        queue := t.queue, context := t.context, arbiter := t.arbiter, mapper := t.mapper, reg := t.reg, link := t.link }

/-- The insertion rule on a queue of entries in order of arrival and more than MergeDistance apart: with entries
within MergeDistance of the new one they and it become one, of the highest class and the earliest arrival, its other
fields those of the earliest existing entry of that class, or of the new one when it alone has it; else it is inserted
while there is room; else it takes the place of the last entry of the lowest class, if that is below its own, or is
dropped. The queue stays in order, apart and at most eight long. An entry offered to a queue takes that rule there,
queues PreviewDropped with reason Full for the entry lost, if any, and then, unless it was dropped, the queue's
maturity check, which makes the outcome MaturedAtOnce when it takes the entry that holds the feature (R45, R46, R48,
R55). -/
def Obligations.InsertionKeepsQueue : Prop :=
  (∀ (merge : Nat) (base : Odo) (new : Entry) (q near far : List Entry) (i : Insertion),
    Spaced merge base q → q.length ≤ 8 → ahead base new < 2 ^ 31 → merge < 2 ^ 31 → i = insertEntry merge new q →
    near = q.filter (fun e => decide (ahead base e ≤ ahead base new + merge ∧ ahead base new ≤ ahead base e + merge)) →
    far = q.filter (fun e => !decide (ahead base e ≤ ahead base new + merge ∧ ahead base new ≤ ahead base e + merge)) →
    Spaced merge base i.queue ∧ i.queue.length ≤ 8 ∧
    (near ≠ [] → i.outcome = .merged ∧ i.lost = none ∧ i.queue.Perm (i.holder :: far) ∧
      (∀ e ∈ new :: near, ahead base i.holder ≤ ahead base e ∧ e.cls ≤ i.holder.cls) ∧
      (∃ e ∈ new :: near, e.arrival = i.holder.arrival) ∧
      (∃ e ∈ new :: near, i.holder = { e with arrival := i.holder.arrival } ∧
        ((∃ x ∈ near, x.cls = i.holder.cls) →
          e ∈ near ∧ ∀ x ∈ near, x.cls = i.holder.cls → ahead base e ≤ ahead base x))) ∧
    (near = [] → q.length < 8 → i.outcome = .inserted ∧ i.lost = none ∧ i.holder = new ∧ i.queue.Perm (new :: q)) ∧
    (near = [] → q.length = 8 → (∀ e ∈ q, new.cls ≤ e.cls) →
      i.outcome = .dropped ∧ i.lost = some new ∧ i.queue = q) ∧
    (near = [] → q.length = 8 → (∃ e ∈ q, e.cls < new.cls) → ∃ e before after, q = before ++ e :: after ∧
      (∀ x ∈ q, e.cls ≤ x.cls) ∧ (∀ x ∈ after, e.cls < x.cls) ∧
      i.outcome = .evicted ∧ i.lost = some e ∧ i.holder = new ∧ i.queue.Perm (new :: (before ++ after)))) ∧
  ∀ (c : Corner) (e : Entry) (s u : State) (i : Insertion),
    i = insertEntry s.dist.mergeDistance e (s.queue.get c) →
    u = { s with
      queue := s.queue.set c i.queue,
      link := (match i.lost with
        | none => s.link
        | some x => s.link.record (event .previewDropped (some c) 0 (BitVec.ofNat 8 x.cls) x.id.toNat)) } →
    (i.outcome = .dropped → offerToQueue c e s = (u, .dropped, e.id)) ∧
    (i.outcome ≠ .dropped → offerToQueue c e s = (maturityCheck c u,
      if i.holder ∈ i.queue.takeWhile (fun x =>
          decide (signedDiff s.dist.odometer x.arrival ≤ (s.dist.speed * s.dist.leadTime / 1000 : Nat)))
        then .maturedAtOnce else i.outcome,
      i.holder.id))

/-! ### CoilTest -/

/-- A CoilTest is judged in the order Busy, Latched, test excitation, Disabled, Cancelled, LowCurrent, probe: the
direct answers change nothing else, a test excitation sets duty 160 with its counts at 0 and remembers Off or Faulted,
a probe waits, and both reserve a reply and hold the corner's in-flight slot (R127, R138, R140, R171, R177). -/
def Obligations.CoilTestJudged : Prop :=
  ∀ (tag : Byte) (c : Corner) (s : State) (r : Regulator) (answer : Status → State) (reserved : LinkState),
    s.Listening → s.control.part = .configuring ∨ s.control.part = .running ∨ s.control.part = .failsafe →
    r = s.reg.get c → answer = (fun st => { s with link := { s.link with replies := s.answered 0xC4 tag st [] } }) →
    reserved = { s.link with
      inflight := s.link.inflight.set c (some tag), reservations := s.link.reservations + 1 } →
    (s.link.inflight.get c ≠ none → exec (.coilTest tag c.code) s = .next (answer .busy)) ∧
    (s.link.inflight.get c = none → r.latched = true → exec (.coilTest tag c.code) s = .next (answer .latched)) ∧
    (s.link.inflight.get c = none → r.latched = false →
      (s.control.part = .configuring ∧ r.mode = .off) ∨ r.mode = .faulted →
      (s.supply.band = .hold → exec (.coilTest tag c.code) s = .next (answer .cancelled)) ∧
      (s.supply.band ≠ .hold → exec (.coilTest tag c.code) s = .next { s with
        reg := s.reg.set c { r with
          mode := .test 0 0 (if r.mode = .faulted then .faulted else .off), duty := 160,
          target := (match r.slot with
            | some p => some p.target
            | none => r.target),
          slot := none, probeTimer := none, probeDue := false, openCount := 0 },
        link := reserved })) ∧
    (s.link.inflight.get c = none → r.latched = false → s.control.part ≠ .configuring →
      (r.mode = .off → exec (.coilTest tag c.code) s = .next (answer .disabled)) ∧
      (r.mode = .hold → exec (.coilTest tag c.code) s = .next (answer .cancelled)) ∧
      (∀ I, r.target = some I →
        r.mode = .regulating ∨ (∃ n, r.mode = .kick n) ∨ (∃ n, r.mode = .quench n) ∨ (∃ n sum, r.mode = .probe n sum) →
        (I < 150 → exec (.coilTest tag c.code) s = .next (answer .lowCurrent)) ∧
        (150 ≤ I → exec (.coilTest tag c.code) s = .next { s with
          reg := s.reg.set c { r with testWaiting := true }, link := reserved })))

/-! ### Wheels and distance -/

/-- A wheel pulse: ignored in Parked and Waking, while RESETN is low, and within 50 µs of the last accepted edge;
accepted, it writes the edge, the cross counts, the silence timer and, by the wheel state, period, speed, state and
restore count; on a wheel in service it clears DistanceLost, moves the odometer by Inc_half, or by Inc_full while the
other wheel is Faulted, and hands on the advance notice; where it does not advance the odometer, on a Faulted wheel
and without geometry, a changed vehicle speed is handed to the four maturity checks, and a restored wheel's record is
queued (in either order, log 5). At an advance notice every runner ends its steps first; then the four maturity checks
and the two detectors act, in some order (R3, R5 to R8, R10, R12, R13, R17, R48, R49, R50). The clock stands at the
edge's stamp afterwards (log 4). -/
def Obligations.WheelPulseTaken : Prop :=
  (∀ (f : Front) (stamp : Stamp) (s : State) (now : Nat) (me other base me' : Wheel) (dist : Distance)
    (speed : Option Nat → Nat), now = s.now + (stamp - BitVec.ofNat 32 s.now).toNat → me = s.dist.wheel.get f →
    other = s.dist.wheel.get f.other →
    speed = (fun p => match s.dist.ring, p with
      | some g, some p => min 80000 ((2 * (g.circumference * 1000000) + g.teeth * p) / (2 * (g.teeth * p)))
      | _, _ => 0) →
    base = { me with
      lastEdge := some stamp, cross := min 255 (me.cross + 1), silence := some (now + 250000),
      period := me.lastEdge.map fun e => (stamp - e).toNat } →
    me' = (if me.state = .valid then { base with speed := speed base.period }
      else if me.state = .silent then { base with state := .valid, period := none, speed := 0 }
      else if 32 ≤ me.restore + 1 then { base with state := .valid, restore := 0, speed := speed base.period }
      else { base with restore := me.restore + 1, speed := 0 }) →
    dist = { s.dist with
      wheel := (s.dist.wheel.set f me').set f.other { other with cross := 0 },
      speed := if other.state = .faulted ∧ me'.state ≠ .faulted then me'.speed
        else if me'.state = .faulted ∧ other.state ≠ .faulted then other.speed
        else if me'.state = .faulted then (if f = .fl then other.speed else me'.speed)
        else (me'.speed + other.speed) / 2 } →
    (s.resetLow = true ∨ s.control.part = .parked ∨ s.control.part = .waking ∨
        (∃ e, me.lastEdge = some e ∧ (stamp - e).toNat < 50) →
      exec (.wheelPulse f stamp) s = .next { s with now := now }) ∧
    (s.resetLow = false → s.control.part ≠ .parked → s.control.part ≠ .waking →
      (∀ e, me.lastEdge = some e → 50 ≤ (stamp - e).toNat) →
      (me.state = .faulted → ∃ t, exec (.wheelPulse f stamp) s = .next t ∧ t.dist = dist ∧
        SpeedHanded s.dist.speed
          (if me'.state = .valid then some (event .wheelInputRestored (some f.corner) 0 0 me'.speed) else none)
          { s with now := now, dist := dist } t ∧
        ((∀ k, s.queue.get k = []) → t = { s with
          now := now, choices := t.choices, dist := dist,
          link := if me'.state = .valid then
            s.link.record (event .wheelInputRestored (some f.corner) 0 0 me'.speed) else s.link })) ∧
      (me.state ≠ .faulted → s.dist.ring = none → s.dist.lost = false → ∃ t, exec (.wheelPulse f stamp) s = .next t ∧
        t.dist = dist ∧ SpeedHanded s.dist.speed none { s with now := now, dist := dist } t ∧
        ((∀ k, s.queue.get k = []) → t = { s with now := now, choices := t.choices, dist := dist })) ∧
      (me.state ≠ .faulted → s.dist.ring = none → s.dist.lost = true → s.preview.active = false →
        ∃ t, exec (.wheelPulse f stamp) s = .next t ∧ t.dist = { dist with lost := false } ∧
          SpeedHanded s.dist.speed none { s with
            now := now, dist := { dist with lost := false },
            preview := { s.preview with
              active := decide (s.control.part = .running) && decide (s.dist.direction = .forward) },
            link := s.link.record (event .distanceRestored (some f.corner) 0 0 s.dist.referenceSpeed) } t ∧
          ((∀ k, s.queue.get k = []) → t = { s with
            now := now, choices := t.choices, dist := { dist with lost := false },
            preview := { s.preview with
              active := decide (s.control.part = .running) && decide (s.dist.direction = .forward) },
            link := s.link.record (event .distanceRestored (some f.corner) 0 0 s.dist.referenceSpeed) })) ∧
      (∀ g inc moved, me.state ≠ .faulted → s.dist.ring = some g →
        inc = (if other.state = .faulted then (2 * (g.circumference * 256) + g.teeth) / (2 * g.teeth)
          else (2 * (g.circumference * 128) + g.teeth) / (2 * g.teeth)) →
        moved = { dist with
          odometer := s.dist.odometer + BitVec.ofNat 32 ((s.dist.fraction + inc) / 256),
          fraction := (s.dist.fraction + inc) % 256, lost := false } →
        (s.dist.lost = false →
          exec (.wheelPulse f stamp) s = .next (advanceNotice { s with now := now, dist := moved })) ∧
        (s.dist.lost = true → s.preview.active = false →
          exec (.wheelPulse f stamp) s = .next (advanceNotice { s with
            now := now, dist := moved,
            preview := { s.preview with
              active := decide (s.control.part = .running) && decide (s.dist.direction = .forward) },
            link := s.link.record (event .distanceRestored (some f.corner) 0 0 s.dist.referenceSpeed) }))))) ∧
  ∀ s : State, ∃ (n : Nat) (order : List (Corner ⊕ Front)),
    order.Perm ([Corner.fl, .fr, .rl, .rr].map Sum.inl ++ [Front.fl, .fr].map Sum.inr) ∧
    advanceNotice s = order.foldl (fun u x => match x with
        | .inl c => maturityCheck c u
        | .inr f => detectorNotice f u)
      { runnerNotice .rr (runnerNotice .rl (runnerNotice .fr (runnerNotice .fl s))) with choices := n }

/-- A silence expiry: the wheel loses its edge, period and speed and becomes Silent, or Faulted with WheelInputFault
when the other wheel is not Faulted and delivered 20 or more pulses; the timer runs again, the other wheel's cross
count is 0, a changed vehicle speed is handed on to the four maturity checks, and then DistanceLost is set, with its
record, when both speeds are 0 and ReferenceSpeed is 2000 or more; an active preview flag turns false then, which
empties queues, contexts and windows and hands on the demand each emptied context leaves (R7, R9, R10, R11, R13, R16,
R41, R48, R52). That the speed is handed on before DistanceLost is evaluated is the model's reading (log 17), and
WheelInputFault may come before or after the checks (log 5). The clock at an expiry and the next deadline, counted
from it, are the model's (log 3, log 23). -/
def Obligations.SilenceJudgesWheel : Prop :=
  ∀ (f : Front) (s : State) (T : Nat) (me other me' : Wheel) (dist : Distance) (judged lost : Bool) (l1 : LinkState)
    (record : Option Event),
    me = s.dist.wheel.get f → other = s.dist.wheel.get f.other → me.silence = some T →
    judged = (decide (other.state ≠ .faulted) && decide (20 ≤ other.cross)) →
    me' = (if me.state = .faulted then
        { me with lastEdge := none, period := none, silence := some (max s.now T + 250000), restore := 0 }
      else if judged then
        { me with
          lastEdge := none, period := none, silence := some (max s.now T + 250000), restore := 0, speed := 0,
          state := .faulted }
      else
        { me with
          lastEdge := none, period := none, silence := some (max s.now T + 250000), speed := 0, state := .silent }) →
    lost = (!s.dist.lost && decide (me'.speed = 0) && decide (other.speed = 0) &&
      decide (2000 ≤ s.dist.referenceSpeed)) →
    dist = { s.dist with
      wheel := (s.dist.wheel.set f me').set f.other { other with cross := 0 },
      speed := if other.state = .faulted ∧ me'.state ≠ .faulted then me'.speed
        else if me'.state = .faulted ∧ other.state ≠ .faulted then other.speed
        else if me'.state = .faulted then (if f = .fl then other.speed else me'.speed)
        else (me'.speed + other.speed) / 2,
      lost := lost || s.dist.lost } →
    record = (if me.state ≠ .faulted ∧ judged = true then
      some (event .wheelInputFault (some f.corner) 0 0 other.cross) else none) →
    l1 = record.elim s.link s.link.record →
    ∃ t v w : State, exec (.silenceExpiry f) s = .next t ∧ t.dist = dist ∧
      t.preview = (if lost then { s.preview with active := false } else s.preview) ∧
      SpeedHanded s.dist.speed record { s with now := max s.now T, dist := { dist with lost := s.dist.lost } } v ∧
      w = { v with
        dist := dist, preview := { s.preview with active := false },
        link := v.link.record (event .distanceLost none 0 0 s.dist.referenceSpeed) } ∧
      (lost = false → t = v) ∧
      (lost = true → s.preview.active = false → t = w) ∧
      (lost = true → s.preview.active = true → PreviewFlushed w t) ∧
      ((∀ k, s.queue.get k = []) → s.preview.active = false → t = { s with
        now := max s.now T, choices := t.choices, dist := dist, preview := t.preview,
        link := if lost then l1.record (event .distanceLost none 0 0 s.dist.referenceSpeed) else l1 })

/-- The runner at an advance: every step whose end the odometer has reached is ended, with the nominal starts kept;
the next step is handed to the arbiter once, or the context is emptied after the last. The runner at an offer: an
entry starts in an Empty context and replaces one of its own class or a lower, from step 0 at the odometer; a lower
entry is discarded with PreviewDropped, reason Superseded. A maturity check takes the entries at the head of the queue
whose remaining is at or below the lead and offers them in order, each against the context the one before left (R48,
R61 to R66, R68, R69). -/
def Obligations.StepsEndByDistance : Prop :=
  (∀ (c : Corner) (s : State) (x : Context) (ended rest : List ProfileStep) (passed : Nat), s.context.get c = some x →
    x.index < x.steps.length → x.steps.drop x.index = ended ++ rest → passed = (ended.map (·.length)).sum →
    passed ≤ (s.dist.odometer - x.start).toNat → (s.dist.odometer - x.start).toNat < 2 ^ 31 →
    (∀ st ∈ rest.head?, (s.dist.odometer - x.start).toNat < passed + st.length) →
    (rest = [] → runnerNotice c s = resolve c { s with
      context := s.context.set c none, arbiter := s.arbiter.set c { s.arbiter.get c with preview := none } }) ∧
    (ended = [] → rest ≠ [] → runnerNotice c s = s) ∧
    (∀ st after, ended ≠ [] → rest = st :: after → runnerNotice c s = resolve c { s with
      context := s.context.set c (some { x with
        index := x.index + ended.length, start := x.start + BitVec.ofNat 32 passed }),
      arbiter := s.arbiter.set c { s.arbiter.get c with preview := some ⟨st.demand, st.mode⟩ } })) ∧
  (∀ (c : Corner) (e : Entry) (s : State) (steps : List ProfileStep),
    s.preview.profile e.profile = some steps → (∀ x, s.context.get c = some x → x.cls ≤ e.cls) →
    offerToRunner c e s = resolve c { s with
      context := s.context.set c (some {
        profile := e.profile, steps := steps, index := 0, start := s.dist.odometer, cls := e.cls, id := e.id,
        dir := e.dir, origin := e.origin, source := e.source }),
      arbiter := s.arbiter.set c { s.arbiter.get c with
        preview := steps.head?.map fun st : ProfileStep => StepForm.mk st.demand st.mode } }) ∧
  (∀ (c : Corner) (e : Entry) (s : State) (x : Context), s.context.get c = some x → e.cls < x.cls →
    offerToRunner c e s = { s with
      link := s.link.record (event .previewDropped (some c) 1 (BitVec.ofNat 8 e.cls) e.id.toNat) }) ∧
  (∀ (c : Corner) (s : State) (taken rest : List Entry) (lead : Nat), lead = s.dist.speed * s.dist.leadTime / 1000 →
    s.queue.get c = taken ++ rest → (∀ e ∈ taken, signedDiff s.dist.odometer e.arrival ≤ lead) →
    (∀ e ∈ rest.head?, (lead : Int) < signedDiff s.dist.odometer e.arrival) →
    maturityCheck c s = taken.foldl (fun u e => offerToRunner c e u) { s with queue := s.queue.set c rest })

/-! ### Travel, guards, detectors, supply -/

/-- The timers that only take note: the scan timer starts its next interval and a scan at FL, the probe timer makes a
probe due, the recovery window closes (R20, R122, R137). The clock and the next interval of the scan timer are the
model's (log 3, log 23), and so is that a SCAN within a scan, which R20 excludes, restarts at FL like any other (log
27). -/
def Obligations.TimersTakeNote : Prop :=
  ∀ (s : State) (c : Corner) (T : Nat),
    (s.conv.timer = some T → exec .scan s = .next { s with
      now := max s.now T, conv := { timer := some (T + 1000), pos := .travel .fl } }) ∧
    ((s.reg.get c).probeTimer = some T → exec (.probeTimerExpiry c) s = .next { s with
      now := max s.now T, reg := s.reg.set c { s.reg.get c with probeTimer := none, probeDue := true } }) ∧
    ((s.reg.get c).recovery = some T → exec (.recoveryWindowExpiry c) s = .next { s with
      now := max s.now T, reg := s.reg.set c { s.reg.get c with recovery := none } })

/-- A travel conversion goes to the corner of the scan position, and the scan moves on in the order FL, FR, RL, RR,
VBAT. In Waking and at a corner that is not Enabled it is discarded. A good sample appends its position to the last
five and clears the bad run, or counts toward the twenty that end a sensor fault; a twentieth that leaves fewer than
five positions, after a SetCorner inside the run, ends the fault and is handed on to neither (log 29); a bad one
empties the history, and the third in a run is a SensorFault. With five positions the position and the velocity go to
the guard and, at a front corner, to the detector, in either order; a sensor fault releases the guard and abandons the
window (R20, R22, R25 to R30, R41, R86). -/
def Obligations.TravelSampleTaken : Prop :=
  (∀ (c : Corner) (raw : Count) (s : State) (conv : Converter) (x : Sensing) (travelZero scale : Nat) (d pos : Int)
    (history : List Int), s.conv.pos = .travel c →
    conv = { s.conv with pos := match c with
      | .fl => .travel .fr
      | .fr => .travel .rl
      | .rl => .travel .rr
      | .rr => .vbat } →
    x = s.sensing.get c → (x.enabled = true → x.scale = some (travelZero, scale)) →
    d = (if x.invert then (travelZero : Int) - raw.toNat else (raw.toNat : Int) - travelZero) * scale →
    pos = (if 0 ≤ d then min 2000 ((2 * d + 100) / 200) else max (-2000) (-((2 * -d + 100) / 200))) →
    history = (if x.history.length < 5 then x.history else x.history.drop 1) ++ [pos] →
    (s.control.part = .waking ∨ x.enabled = false →
      exec (.travelConversion raw) s = .next { s with conv := conv }) ∧
    (s.control.part ≠ .waking → x.enabled = true → 200 ≤ raw.toNat → raw.toNat ≤ 3895 →
      (x.faulted = false → history.length < 5 → exec (.travelConversion raw) s = .next { s with
        conv := conv, sensing := s.sensing.set c { x with history := history, bad := 0 } }) ∧
      (x.faulted = true → x.good + 1 < 20 → exec (.travelConversion raw) s = .next { s with
        conv := conv, sensing := s.sensing.set c { x with history := history, good := x.good + 1 } }) ∧
      (∀ p q u v e, history = [p, q, u, v, e] →
        (x.faulted = false → exec (.travelConversion raw) s = .next (handSample c pos ((e - p) * 25) { s with
          conv := conv, sensing := s.sensing.set c { x with history := history, bad := 0 } })) ∧
        (x.faulted = true → 20 ≤ x.good + 1 →
          exec (.travelConversion raw) s = .next (handSample c pos ((e - p) * 25) { s with
            conv := conv,
            sensing := s.sensing.set c { x with history := history, faulted := false, good := 0 },
            link := s.link.record (event .sensorRecovered (some c) 0 0 raw.toNat) }))) ∧
      (x.faulted = true → 20 ≤ x.good + 1 → history.length < 5 → exec (.travelConversion raw) s = .next { s with
        conv := conv, sensing := s.sensing.set c { x with history := history, faulted := false, good := 0 },
        link := s.link.record (event .sensorRecovered (some c) 0 0 raw.toNat) })) ∧
    (s.control.part ≠ .waking → x.enabled = true → raw.toNat < 200 ∨ 3895 < raw.toNat →
      (x.faulted = true → exec (.travelConversion raw) s = .next { s with
        conv := conv, sensing := s.sensing.set c { x with history := [], good := 0 } }) ∧
      (x.faulted = false → x.bad + 1 < 3 → exec (.travelConversion raw) s = .next { s with
        conv := conv, sensing := s.sensing.set c { x with history := [], good := 0, bad := x.bad + 1 } }) ∧
      (x.faulted = false → 3 ≤ x.bad + 1 → ∃ t, exec (.travelConversion raw) s = .next t ∧
        t.sensing = s.sensing.set c { x with history := [], good := 0, faulted := true, bad := 0 } ∧
        t.link = s.link.record (event .sensorFault (some c) (if raw.toNat < 200 then 0 else 1) 0 raw.toNat) ∧
        (∀ f : Front, t.window.get f = if f.corner = c then none else s.window.get f) ∧
        ((s.guard.get c).engaged ≠ none → t = resolve c { s with
          conv := conv, sensing := t.sensing, link := t.link, window := t.window,
          guard := s.guard.set c { s.guard.get c with engaged := none, timer := none },
          arbiter := s.arbiter.set c { s.arbiter.get c with guard := none } }) ∧
        ((s.guard.get c).engaged = none → t = { s with
          conv := conv, sensing := t.sensing, link := t.link, window := t.window })))) ∧
  (∀ (c : Corner) (x v : Int) (s : State), c = .rl ∨ c = .rr → handSample c x v s = guardSample c x v s) ∧
  (∀ (f : Front) (x v : Int) (s : State), ∃ n,
    handSample f.corner x v s = detectorSample f v (guardSample f.corner x v { s with choices := n }) ∨
    handSample f.corner x v s = guardSample f.corner x v (detectorSample f v { s with choices := n }))

/-- The end-stop guard: outside Running and Failsafe it acts on no sample; inside a band, moving toward the stop, it
is Engaged on that side with its hold timer started again and hands GuardDemand, with GuardEngaged at each new side;
on any other sample a guard without a running timer is Released; and at its hold timer's expiry it is Released (R82,
R83, R84). The clock at an expiry is the model's (log 3). -/
def Obligations.GuardActs : Prop :=
  ∀ (c : Corner) (x v : Int) (s : State) (g : Guard) (a : Arbiter) (released : State) (called : Option Dir),
    g = s.guard.get c → a = s.arbiter.get c →
    called = (if g.bumpBand ≠ 0 ∧ (g.bumpBand : Int) ≤ x ∧ (g.guardVel : Int) ≤ v then some .compression
      else if g.reboundBand ≠ 0 ∧ x ≤ -(g.reboundBand : Int) ∧ v ≤ -(g.guardVel : Int) then some .rebound
      else none) →
    released = { s with
      guard := s.guard.set c { g with engaged := none, timer := none },
      arbiter := s.arbiter.set c { a with guard := none } } →
    (s.control.part ≠ .running → s.control.part ≠ .failsafe → guardSample c x v s = s) ∧
    (s.control.part = .running ∨ s.control.part = .failsafe →
      (∀ side g', called = some side →
        g' = { g with
          engaged := some side,
          timer := if g.guardHold = 0 then g.timer else some (s.now + 1000 * g.guardHold) } →
        (g.engaged = none → ∀ t, t = resolve c { s with
              guard := s.guard.set c g', arbiter := s.arbiter.set c { a with guard := some g.guardDemand } } →
            guardSample c x v s = { t with
              link := s.link.record (event .guardEngaged (some c) side.code 0 x.natAbs) }) ∧
        (g.engaged = some side → guardSample c x v s = { s with guard := s.guard.set c g' }) ∧
        (g.engaged = some side.opposite → guardSample c x v s = { s with
          guard := s.guard.set c g', link := s.link.record (event .guardEngaged (some c) side.code 0 x.natAbs) })) ∧
      (called = none → g.timer = none → g.engaged ≠ none → guardSample c x v s = resolve c released) ∧
      (called = none → g.timer ≠ none ∨ g.engaged = none → guardSample c x v s = s)) ∧
    (∀ T, g.timer = some T → g.engaged ≠ none →
      exec (.guardHoldExpiry c) s = .next (resolve c { released with now := max s.now T })) ∧
    (∀ T, g.timer = some T → g.engaged = none → exec (.guardHoldExpiry c) s = .next { s with
      now := max s.now T, guard := s.guard.set c { g with timer := none } })

/-- The impact detectors act on samples in Running only: a velocity of class 1 or more opens a window at the odometer,
its peak class grows while it is open, and below the closing level, or at a class on the other side, it closes with
ImpactDetected; the sample on the other side then opens a window there. A window of WindowMax or more closes at an
advance notice. While preview is active, at a mapped class, at PreviewMinSpeed or more and with the rear corner
Enabled, a closing window makes an entry for the same-side rear corner a wheelbase ahead of where it opened (R35 to
R40). -/
def Obligations.DetectorFollowsVelocity : Prop :=
  ∀ (f : Front) (v : Int) (s : State) (d : Detection) (cls : Dir → Nat), d = s.preview.detection →
    cls = (fun dir => match dir with
      | .compression => if v < d.tc1 then 0 else if (d.tc3 : Int) ≤ v then 3 else if (d.tc2 : Int) ≤ v then 2 else 1
      | .rebound => if -v < d.tr1 then 0 else if (d.tr3 : Int) ≤ -v then 3 else if (d.tr2 : Int) ≤ -v then 2 else 1) →
    (s.control.part ≠ .running → detectorSample f v s = s) ∧
    (s.control.part = .running → s.window.get f = none →
      detectorSample f v s = if 0 < cls .compression then
          { s with window := s.window.set f (some ⟨.compression, cls .compression, s.dist.odometer⟩) }
        else if 0 < cls .rebound then
          { s with window := s.window.set f (some ⟨.rebound, cls .rebound, s.dist.odometer⟩) }
        else s) ∧
    (s.window.get f = none → detectorNotice f s = s) ∧
    (∀ w near u closed, s.window.get f = some w →
      near = (match w.dir with
        | .compression => (d.tc1 : Int) - d.hysteresis ≤ v
        | .rebound => (d.tr1 : Int) - d.hysteresis ≤ -v) →
      u = { s with
        window := s.window.set f none,
        link := s.link.record (event .impactDetected (some f.corner) (BitVec.ofNat 8 w.peak) w.dir.code
          (signedDiff w.opening s.dist.odometer).toNat) } →
      closed = (match d.mapCell w.dir w.peak, s.dist.ring with
        | some p, some ring =>
          if s.preview.active = true ∧ s.dist.previewMinSpeed ≤ s.dist.speed ∧
              (s.sensing.get f.rear).enabled = true then
            (offerToQueue f.rear {
                id := s.preview.nextId, arrival := w.opening + BitVec.ofNat 32 ring.wheelbase, cls := w.peak,
                dir := w.dir, profile := p, origin := .detected, source := some f }
              { u with preview := { s.preview with nextId := s.preview.nextId + 1 } }).1
          else u
        | _, _ => u) →
      (s.control.part = .running → cls w.dir.opposite = 0 → near → detectorSample f v s = { s with
        window := s.window.set f (some { w with peak := max w.peak (cls w.dir) }) }) ∧
      (s.control.part = .running → cls w.dir.opposite = 0 → ¬ near → detectorSample f v s = closed) ∧
      (s.control.part = .running → 0 < cls w.dir.opposite → 0 < d.tc1 → detectorSample f v s = { closed with
        window := closed.window.set f (some ⟨w.dir.opposite, cls w.dir.opposite, s.dist.odometer⟩) }) ∧
      ((d.windowMax : Int) ≤ signedDiff w.opening s.dist.odometer → detectorNotice f s = closed) ∧
      (signedDiff w.opening s.dist.odometer < d.windowMax → detectorNotice f s = s))

/-- A VBAT conversion: VBAT is round(raw × 6000 / 1024) mV, the band is judged from the band held, and a band entered
queues its record. Entering Hold, regulators in a regulation mode go to Hold with duty 0, their pending target kept
under FixedLatency and taken without it, test excitations are abandoned, the others are left as they are, and
CoilTests in flight are answered Cancelled; leaving Hold, a regulator in Hold enters regulation with a step from 0
(R20, R21, R113, R126, R129, R141, R144, R146, R147). What becomes at Hold of a pending target whose apply time was
reached in Probe (log 15) and that SupplyHold comes before the Cancelled answers (log 17) are the model's reading. -/
def Obligations.SupplyBandFollowsVbat : Prop :=
  ∀ (raw : Count) (s : State) (v : Nat) (band : Band) (link : LinkState) (conv : Converter) (supply : Supply),
    s.conv.pos = .vbat → v = (2 * (raw.toNat * 6000) + 1024) / 2048 → conv = { s.conv with pos := .idle } →
    band = (match s.supply.band with
      | .normal => if v < 6000 ∨ 18000 < v then .hold else if v ≤ 8999 then .low else .normal
      | .low => if v < 6000 ∨ 18000 < v then .hold else if 9500 ≤ v then .normal else .low
      | .hold => if v < 6500 ∨ 17500 < v then .hold else if v ≤ 9499 then .low else .normal) →
    supply = { vbat := some v, band := band } →
    link = s.link.record (match band with
      | .normal => event .supplyNormal none 0 0 v
      | .low => event .supplyLow none 0 0 v
      | .hold => event .supplyHold none (if v < 6000 then 0 else 1) 0 v) →
    (band = s.supply.band → exec (.vbatConversion raw) s = .next { s with conv := conv, supply := supply }) ∧
    (band ≠ s.supply.band → band ≠ .hold → s.supply.band ≠ .hold →
      exec (.vbatConversion raw) s = .next { s with conv := conv, supply := supply, link := link }) ∧
    (band = .hold → s.supply.band ≠ .hold → ∃ t, exec (.vbatConversion raw) s = .next t ∧
      (∀ c r stays, r = { s.reg.get c with
            testWaiting := (s.reg.get c).testWaiting && (s.link.inflight.get c).isNone } →
        stays = (s.regulation.fixedLatency && (r.slot.bind (·.applyAt)).isSome) →
        (r.mode = .off ∨ r.mode = .faulted ∨ r.mode = .hold → t.reg.get c = r) ∧
        (∀ n sum ret, r.mode = .test n sum ret → t.reg.get c = { r with mode := ret.mode, duty := 0 }) ∧
        (r.mode = .regulating ∨ (∃ n, r.mode = .kick n) ∨ (∃ n, r.mode = .quench n) ∨ (∃ n sum, r.mode = .probe n sum) →
          t.reg.get c = { r with
            mode := .hold, duty := 0, probeTimer := none, probeDue := false, testWaiting := false, openCount := 0,
            slot := if stays then r.slot else none,
            target := if stays then r.target else match r.slot with
              | some p => some p.target
              | none => r.target })) ∧
      (∃ order : List Corner, order.Perm [.fl, .fr, .rl, .rr] ∧
        t.link = { link with
          replies := s.link.replies ++ s.cancelledAnswers (summary t) order, reservations := t.link.reservations,
          inflight := ⟨none, none, none, none⟩ } ∧
        t.link.reservations = s.link.reservations -
          (Corner.list.filter fun k => (s.link.inflight.get k).isSome).length) ∧
      t = { s with choices := t.choices, conv := conv, supply := supply, reg := t.reg, link := t.link }) ∧
    (band ≠ .hold → s.supply.band = .hold → ∃ t, exec (.vbatConversion raw) s = .next t ∧
      (∀ c, (s.reg.get c).mode ≠ .hold → t.reg.get c = s.reg.get c) ∧
      (∀ c I r, (s.reg.get c).mode = .hold → (s.reg.get c).target = some I →
        r = { s.reg.get c with
          probeTimer := if s.regulation.probeCorners.get c then some (s.now + 1000 * s.regulation.probeInterval)
            else (s.reg.get c).probeTimer,
          probeDue := false } →
        t.reg.get c = if 0 < s.regulation.kickStep ∧ 0 < s.regulation.kickTime ∧ s.regulation.kickStep ≤ I then
            { r with mode := .kick 0, duty := 1023 }
          else { r with mode := .regulating }) ∧
      t = { s with conv := conv, supply := supply, reg := t.reg, link := link })

/-! ### The regulation period -/

/-- An expiry in Regulating that finds no fault: the period timer starts again, last Im and the open-count are
written, a target of 0 makes the duty 0, any other moves the trim unless anti-windup skips it and sets the duty to
clamp(Dff + trim), and a probe that is due or asked for starts when it may (R102, R106 to R109, R123, R134). While
VBAT is absent the voltage is a free value (log 8). The clock and the next period are the model's (log 3, log 23).
That the open test judges the duty held at the expiry as the duty in force over the period just ended, also in a
period in which it changed, is the model's reading (log 28). -/
def Obligations.RegulatingExpiry : Prop :=
  ∀ (c : Corner) (im : Count) (s : State) (r : Regulator) (T I V Dff opens : Nat) (e inc trim : Int) (starts : Bool),
    r = s.reg.get c → r.mode = .regulating → r.period = some T → r.target = some I → V = s.vbatRead →
    opens = (if 200 ≤ r.duty ∧ im.toNat < 20 then r.openCount + 1 else 0) → opens < 3 → im.toNat ≤ 2500 →
    e = (I : Int) - im.toNat →
    inc = (if 0 ≤ e then (2 * (e * s.regulation.ki) + 256) / 512 else -((2 * (-e * s.regulation.ki) + 256) / 512)) →
    trim = (if I = 0 ∨ (r.duty = 1023 ∧ 0 < e) ∨ (r.duty = 0 ∧ e < 0) then r.trim
      else max (-256) (min 255 (r.trim + inc))) →
    Dff = min 1023 ((2 * (I * r.rEst * 1024) + 1000 * min 18000 (max 6000 V)) /
      (2 * (1000 * min 18000 (max 6000 V)))) →
    starts = ((r.probeDue || r.testWaiting) && decide (150 ≤ I) && r.slot.isNone) →
    (r.testWaiting = true → 150 ≤ I) →
    exec (.periodExpiry c im) s = .next { s with
      now := max s.now T,
      choices := if s.supply.vbat.isNone then s.choices + 1 else s.choices,
      reg := s.reg.set c { r with
        period := some (T + 500), lastIm := im.toNat, openCount := opens, trim := trim,
        duty := if I = 0 then 0 else (max 0 (min 1023 ((Dff : Int) + trim))).toNat,
        mode := if starts then .probe 0 0 else .regulating,
        probeDue := if starts then false else r.probeDue,
        testWaiting := if starts then false else r.testWaiting } }

/-- A CoilTest that waits while the target is below 150 mA is answered LowCurrent at the next expiry in Regulating,
and no probe starts (R123, R128, R177). The clock at an expiry is the model's (log 3). That the open test judges the
duty held at the expiry as the duty in force over the period just ended, also in a period in which it changed, is the
model's reading (log 28). -/
def Obligations.WaitingTestLowCurrent : Prop :=
  ∀ (c : Corner) (im : Count) (s : State) (r : Regulator) (T I : Nat) (tag : Byte),
    r = s.reg.get c → r.mode = .regulating → r.period = some T → r.target = some I → I < 150 → r.testWaiting = true →
    s.link.inflight.get c = some tag → im.toNat ≤ 2500 → r.openAfter im.toNat < 3 →
    ∃ t, exec (.periodExpiry c im) s = .next t ∧
      t.link = { s.link with
        replies := s.answered 0xC4 tag .lowCurrent [], inflight := s.link.inflight.set c none,
        reservations := s.link.reservations - 1 } ∧
      (t.reg.get c).testWaiting = false ∧ (t.reg.get c).mode = .regulating ∧ (t.reg.get c).target = some I ∧
      (∀ d, d ≠ c → t.reg.get d = s.reg.get d) ∧
      t = { s with now := max s.now T, choices := t.choices, reg := t.reg, link := t.link }

/-- An expiry in the other modes that finds no fault and ends no measurement: Kick and Quench count, and end when the
current has reached the target or the time is spent, with the duty computed and the trim held; Probe and Test count
and sum; Off, Hold and Faulted only take Im (R102, R103, R114, R115, R124, R134, R138). While VBAT is absent the
voltage is a free value (log 8); a target that is absent, which no run brings to a regulation mode, reads 0 (log 18).
The clock and the next period are the model's (log 3, log 23). That the open test judges the duty held at the expiry
as the duty in force over the period just ended, also in a period in which it changed, is the model's reading (log
28). -/
def Obligations.ExpiryByMode : Prop :=
  ∀ (c : Corner) (im : Count) (s t : State) (r r0 : Regulator) (T I V Dff opens : Nat),
    r = s.reg.get c → r.period = some T → I = r.target.getD 0 → V = s.vbatRead →
    Dff = min 1023 ((2 * (I * r.rEst * 1024) + 1000 * min 18000 (max 6000 V)) /
      (2 * (1000 * min 18000 (max 6000 V)))) →
    opens = (if 200 ≤ r.duty ∧ im.toNat < 20 then r.openCount + 1 else 0) →
    r0 = { r with period := some (T + 500), lastIm := im.toNat, openCount := 0 } →
    t = { s with
      now := max s.now T, choices := if s.supply.vbat.isNone then s.choices + 1 else s.choices } →
    (∀ n, r.mode = .kick n → im.toNat ≤ 2500 → opens < 3 → exec (.periodExpiry c im) s = .next { t with
      reg := s.reg.set c (if I ≤ im.toNat ∨ s.regulation.kickTime ≤ n + 1 then
          { r0 with
            openCount := opens, mode := .regulating, duty := (max 0 (min 1023 ((Dff : Int) + r.trim))).toNat }
        else { r0 with openCount := opens, mode := .kick (n + 1), duty := 1023 }) }) ∧
    (∀ n, r.mode = .quench n → im.toNat ≤ 2500 → exec (.periodExpiry c im) s = .next { t with
      reg := s.reg.set c (if im.toNat ≤ I ∨ s.regulation.quenchTime ≤ n + 1 then
          { r0 with
            mode := .regulating, duty := if I = 0 then 0 else (max 0 (min 1023 ((Dff : Int) + r.trim))).toNat }
        else { r0 with mode := .quench (n + 1), duty := 0 }) }) ∧
    (∀ n sum, r.mode = .probe n sum → n < 3 → im.toNat ≤ 2500 → opens < 3 →
      exec (.periodExpiry c im) s = .next { t with
        reg := s.reg.set c { r0 with openCount := opens, mode := .probe (n + 1) (sum + im.toNat) } }) ∧
    (∀ n sum ret, r.mode = .test n sum ret → n < 15 → im.toNat ≤ 2500 →
      exec (.periodExpiry c im) s = .next { t with
        reg := s.reg.set c { r0 with mode := .test (n + 1) (if n < 12 then sum else sum + im.toNat) ret } }) ∧
    ((r.mode = .off ∧ im.toNat ≤ 2500) ∨ (r.mode = .hold ∧ im.toNat ≤ 2500) ∨ r.mode = .faulted →
      exec (.periodExpiry c im) s = .next { t with reg := s.reg.set c r0 })

/-- A fault found at an expiry: above 2500 mA in any mode but Faulted it is CoilShort, and the third expiry in a row
at duty 200 or more with less than 20 mA in Regulating, Kick or Probe is CoilOpen. The regulator is Faulted with duty
0 and its pending target taken, the fault's record is queued, inside the recovery window the corner is latched with
CoilLatched, and a CoilTest in flight is answered Ok with the fault as its outcome (R121, R129, R132 to R134, R136,
R137, R140, R149). The clock and the next period are the model's (log 3, log 23), and so is the clamp of the elapsed
time (log 16). That the open test judges the duty held at the expiry as the duty in force over the period just ended,
also in a period in which it changed, is the model's reading (log 28). -/
def Obligations.FaultAtExpiry : Prop :=
  ∀ (c : Corner) (im : Count) (s : State) (r : Regulator) (T now : Nat) (kind : FaultKind) (l1 l2 : LinkState),
    r = s.reg.get c → r.period = some T → now = max s.now T →
    (kind = .coilShort ∧ r.mode ≠ .faulted ∧ 2500 < im.toNat) ∨
      (kind = .coilOpen ∧ (r.mode = .regulating ∨ (∃ n, r.mode = .kick n) ∨ (∃ n sum, r.mode = .probe n sum)) ∧
        200 ≤ r.duty ∧ im.toNat < 20 ∧ r.openCount = 2) →
    l1 = s.link.record (event (if kind = .coilShort then .coilShort else .coilOpen) (some c) 0 0 im.toNat) →
    l2 = (match r.recovery with
      | some R => l1.record (event .coilLatched (some c) (if kind = .coilShort then 2 else 1) 0
        (min 9999 ((now - (R - 10000000)) / 1000)))
      | none => l1) →
    ∃ t, exec (.periodExpiry c im) s = .next t ∧
      t.reg = s.reg.set c { r with
        period := some (T + 500), lastIm := im.toNat, mode := .faulted, duty := 0, fault := some kind,
        target := (match r.slot with
          | some p => some p.target
          | none => r.target),
        slot := none, probeTimer := none, probeDue := false, openCount := 0,
        latched := r.latched || r.recovery.isSome,
        testWaiting := if s.link.inflight.get c = none then r.testWaiting else false } ∧
      (s.link.inflight.get c = none → t.link = l2) ∧
      (∀ tag, s.link.inflight.get c = some tag → t.link = { l2 with
        replies := s.link.replies ++ [⟨0xC4, tag, .ok, summary t,
          [if kind = .coilShort then 3 else 1, 0xFF, 0xFF, 0xFF, 0xFF] ++ bytes2 (value16 r.rEst)⟩],
        inflight := s.link.inflight.set c none, reservations := s.link.reservations - 1 }) ∧
      t = { s with now := now, choices := t.choices, reg := t.reg, link := t.link }

/-- A probe ends at its fourth expiry: Imp is the rounded mean; below 20 mA it is CoilOpen and outside 800 to 20,000
mΩ CoilResistance, R_est kept, the pending target taken, and the corner latched inside the recovery window; inside,
R_est moves one eighth toward R_meas within 1500 to 12,000, the mode is Regulating with the duty computed from it, a
pending target that is ready is applied by the kick-or-quench test, and the probe timer starts again. A CoilTest that
the probe served is answered Ok after the records, with the outcome, Imp, R_meas and R_est (R106, R111, R121, R125,
R128, R135 to R137, R149, R177). A CoilTest that waits beside a probe that ends in a fault is answered without Imp and
R_meas (log 14). While VBAT is absent the voltage is a free value (log 8). The clock, the next period and the clamp of
the elapsed time are the model's (log 3, log 23, log 16). That the open test judges the duty held at the expiry as the
duty in force over the period just ended, also in a period in which it changed, is the model's reading (log 28). -/
def Obligations.ProbeEnds : Prop :=
  ∀ (c : Corner) (im : Count) (s : State) (r r0 base : Regulator) (T I V sum imp rMeas rEst Dff opens now : Nat)
    (bad : Bool) (answered : Byte → List Byte → LinkState → LinkState) (kicked : Nat → Regulator),
    r = s.reg.get c → r.period = some T → r.mode = .probe 3 sum → r.target = some I → V = s.vbatRead →
    now = max s.now T → im.toNat ≤ 2500 →
    opens = (if 200 ≤ r.duty ∧ im.toNat < 20 then r.openCount + 1 else 0) → opens < 3 →
    imp = (2 * (sum + im.toNat) + 4) / 8 →
    rMeas = (2 * (r.duty * V * 1000) + 1024 * imp) / (2 * (1024 * imp)) →
    bad = decide (imp < 20 ∨ rMeas < 800 ∨ 20000 < rMeas) →
    rEst = (max 1500 (min 12000 ((r.rEst : Int) + ((rMeas : Int) - r.rEst).tdiv 8))).toNat →
    Dff = min 1023 ((2 * (I * rEst * 1024) + 1000 * min 18000 (max 6000 V)) /
      (2 * (1000 * min 18000 (max 6000 V)))) →
    r0 = { r with period := some (T + 500), lastIm := im.toNat, openCount := opens } →
    base = { r0 with
      mode := .regulating, rEst := rEst,
      duty := if I = 0 then 0 else (max 0 (min 1023 ((Dff : Int) + r.trim))).toNat,
      probeTimer := if s.regulation.probeCorners.get c then some (now + 1000 * s.regulation.probeInterval)
        else r.probeTimer } →
    kicked = (fun new =>
      if 0 < s.regulation.kickStep ∧ 0 < s.regulation.kickTime ∧ I + s.regulation.kickStep ≤ new then
        { base with slot := none, target := some new, mode := .kick 0, duty := 1023 }
      else if 0 < s.regulation.quenchStep ∧ 0 < s.regulation.quenchTime ∧ new + s.regulation.quenchStep ≤ I then
        { base with slot := none, target := some new, mode := .quench 0, duty := 0, openCount := 0 }
      else { base with slot := none, target := some new }) →
    answered = (fun sum payload l => match s.link.inflight.get c with
      | none => l
      | some tag => { l with
          replies := s.link.replies ++ [⟨0xC4, tag, .ok, sum, payload⟩],
          inflight := s.link.inflight.set c none, reservations := s.link.reservations - 1 }) →
    ∃ t, exec (.periodExpiry c im) s = .next t ∧
      (bad = true → ∀ l1 l2 : LinkState,
        l1 = s.link.record (if imp < 20 then event .coilOpen (some c) 1 0 imp
          else event .coilResistance (some c) 1 0 rMeas) →
        l2 = (match r.recovery with
          | some R => l1.record (event .coilLatched (some c) (if imp < 20 then 1 else 3) 0
            (min 9999 ((now - (R - 10000000)) / 1000)))
          | none => l1) →
        t.link = answered (summary t)
          ([if imp < 20 then 1 else 2] ++ bytes2 (wordOf (if r.testWaiting then none else some imp)) ++
            bytes2 (wordOf (if r.testWaiting ∨ imp < 20 then none else some (min 65534 rMeas))) ++
            bytes2 (value16 r.rEst)) l2 ∧
        t.reg = s.reg.set c { r0 with
          mode := .faulted, duty := 0, fault := some (if imp < 20 then .coilOpen else .coilResistance),
          target := (match r.slot with
            | some p => some p.target
            | none => r.target),
          slot := none, probeTimer := none, probeDue := false, openCount := 0,
          latched := r.latched || r.recovery.isSome,
          testWaiting := r.testWaiting && (s.link.inflight.get c).isNone }) ∧
      (bad = false →
        t.link = (if r.testWaiting then s.link else answered (summary t)
          ([0] ++ bytes2 (wordOf (some imp)) ++ bytes2 (wordOf (some rMeas)) ++ bytes2 (value16 rEst)) s.link) ∧
        (r.slot = none → t.reg = s.reg.set c base) ∧
        (∀ p, r.slot = some p → t.reg = s.reg.set c (if p.applyAt.getD 0 ≤ now then kicked p.target else base))) ∧
      t = { s with now := now, choices := t.choices, reg := t.reg, link := t.link }

/-- A test excitation ends at its sixteenth expiry: below 20 mA it is CoilOpen, outside the window CoilResistance, and
the corner is latched inside the recovery window; a sound coil of a regulator that came from Off gives Off and its
clamped R_est, and one that came from Faulted recovers with CoilRecovered and a 10 s recovery window, to Off outside
Running and Failsafe and at a corner that is not Enabled, else by an entry with a step from 0, or into Hold. A
CoilTest in flight is answered Ok after the records, with the outcome, Imp, R_meas and R_est (R113, R125, R135 to
R140, R142, R147, R149, R177). That a recovered regulator that starts no kick keeps its duty until the next expiry is
the model's reading (log 9). While VBAT is absent the voltage is a free value (log 8). The clock, the next period and
the clamp of the elapsed time are the model's (log 3, log 23, log 16). -/
def Obligations.TestEnds : Prop :=
  ∀ (c : Corner) (im : Count) (s : State) (r r0 back : Regulator) (T V sum imp rMeas rEst now : Nat) (ret : ReturnMode)
    (bad : Bool) (answered : Byte → List Byte → LinkState → LinkState),
    r = s.reg.get c → r.period = some T → r.mode = .test 15 sum ret → V = s.vbatRead → now = max s.now T →
    im.toNat ≤ 2500 → imp = (2 * (sum + im.toNat) + 4) / 8 →
    rMeas = (2 * (160 * V * 1000) + 1024 * imp) / (2 * (1024 * imp)) →
    bad = decide (imp < 20 ∨ rMeas < 800 ∨ 20000 < rMeas) → rEst = max 1500 (min 12000 rMeas) →
    r0 = { r with
      period := some (T + 500), lastIm := im.toNat, openCount := 0,
      testWaiting := r.testWaiting && (s.link.inflight.get c).isNone } →
    back = { r0 with trim := 0, rEst := rEst, fault := none, recovery := some (now + 10000000) } →
    answered = (fun sum payload l => match s.link.inflight.get c with
      | none => l
      | some tag => { l with
          replies := s.link.replies ++ [⟨0xC4, tag, .ok, sum, payload⟩],
          inflight := s.link.inflight.set c none, reservations := s.link.reservations - 1 }) →
    ∃ t, exec (.periodExpiry c im) s = .next t ∧
      (bad = true → ∀ l1 l2 : LinkState,
        l1 = s.link.record (if imp < 20 then event .coilOpen (some c) 2 0 imp
          else event .coilResistance (some c) 2 0 rMeas) →
        l2 = (match r.recovery with
          | some R => l1.record (event .coilLatched (some c) (if imp < 20 then 1 else 3) 0
            (min 9999 ((now - (R - 10000000)) / 1000)))
          | none => l1) →
        t.link = answered (summary t)
          ([if imp < 20 then 1 else 2] ++ bytes2 (wordOf (some imp)) ++
            bytes2 (wordOf (if imp < 20 then none else some (min 65534 rMeas))) ++ bytes2 (value16 r.rEst)) l2 ∧
        t.reg = s.reg.set c { r0 with
          mode := .faulted, duty := 0, fault := some (if imp < 20 then .coilOpen else .coilResistance),
          target := (match r.slot with
            | some p => some p.target
            | none => r.target),
          slot := none, probeTimer := none, probeDue := false, latched := r.latched || r.recovery.isSome }) ∧
      (bad = false →
        t.link = answered (summary t)
          ([0] ++ bytes2 (wordOf (some imp)) ++ bytes2 (wordOf (some rMeas)) ++ bytes2 (value16 rEst))
          (if ret = .off then s.link else s.link.record (event .coilRecovered (some c) 0 0 rMeas)) ∧
        (ret = .off → t.reg = s.reg.set c { r0 with mode := .off, duty := 0, trim := 0, rEst := rEst }) ∧
        (ret = .faulted → s.driving = false ∨ (s.sensing.get c).enabled = false →
          t.reg = s.reg.set c { back with mode := .off, duty := 0 }) ∧
        (ret = .faulted → s.driving = true → (s.sensing.get c).enabled = true →
          (s.supply.band = .hold → t.reg = s.reg.set c { back with
            mode := .hold, duty := 0, probeTimer := none, probeDue := false }) ∧
          (∀ I p, s.supply.band ≠ .hold → r.target = some I →
            p = { back with
              probeDue := false,
              probeTimer := if s.regulation.probeCorners.get c then some (now + 1000 * s.regulation.probeInterval)
                else r.probeTimer } →
            t.reg = s.reg.set c (if 0 < s.regulation.kickStep ∧ 0 < s.regulation.kickTime ∧
                s.regulation.kickStep ≤ I then
              { p with mode := .kick 0, duty := 1023 } else { p with mode := .regulating })))) ∧
      t = { s with now := now, choices := t.choices, reg := t.reg, link := t.link }

/-! ### Event records and invariants -/

/-- The event queue takes a record: equal to the newest in Kind, Corner and Detail it raises that record's Repeat, up
to 255, and replaces its Value; else it is placed at the tail while the queue holds fewer than 16; else it is dropped
and the overflow mark is set. ATN is asserted when a record is placed (R178, R179). -/
def Obligations.EventQueueTakesRecord : Prop :=
  ∀ (kind : EventKind) (corner : Option Corner) (d1 d2 : Byte) (value : Nat) (s : State) (e : Event),
    e = ⟨kind, corner, d1, d2, BitVec.ofNat 16 (min value 65535), 1⟩ →
    (∀ older n, s.link.events = older ++ [n] → n.kind = kind → n.corner = corner → n.detail1 = d1 → n.detail2 = d2 →
      queueEvent (event kind corner d1 d2 value) s = { s with link := { s.link with
        events := older ++ [{ n with count := min 255 (n.count + 1), value := e.value }] } }) ∧
    (¬ (∃ older n, s.link.events = older ++ [n] ∧ n.kind = kind ∧ n.corner = corner ∧ n.detail1 = d1 ∧ n.detail2 = d2) →
      (s.link.events.length < 16 → queueEvent (event kind corner d1 d2 value) s = { s with link := { s.link with
        events := s.link.events ++ [e], atn := true } }) ∧
      (16 ≤ s.link.events.length → queueEvent (event kind corner d1 d2 value) s = { s with link := { s.link with
        overflow := true } }))

/-- Every step keeps the link sound: at most 2 frames waiting, replies and reservations at most 4 together, at most 16
records, ATN exactly while there is a record, a reservation for each CoilTest in flight, and no frame left waiting
while a reply has room (R170, R171, R174, R177, R178, R179). -/
def Obligations.StepsKeepLinkSound : Prop :=
  ∀ s t : State, s.link.Sound → step s = .next t → t.link.Sound

/-- Every step keeps every regulator sound: duty 0 to 1023, trim -256 to 255, R_est 1500 to 12,000, open-count 0 to 2,
last Im 0 to 4095, and the fixed duty of its mode in force (R102, R103, R107, R125, R134). -/
def Obligations.StepsKeepRegulatorsSound : Prop :=
  ∀ s t : State, (∀ c, (s.reg.get c).Sound) → step s = .next t → ∀ c, (t.reg.get c).Sound

/-- Every step from sound timers keeps the preview blocks sound: the flag agrees with its three conditions, nothing is
queued or runs while it is false, no window is open outside Running, and no queue holds more than eight entries (R45,
R51, R52). -/
def Obligations.StepsKeepPreviewSound : Prop :=
  ∀ s t : State, s.TimersSound → s.PreviewSound → s.QueuesBounded → step s = .next t →
    t.PreviewSound ∧ t.QueuesBounded

/-- Every step keeps the timers sound: the start, wake, scan, period and silence timers run exactly in the part states
that give them, the demand timer runs in Running and may run in Failsafe, and none of them runs while RESETN is low
(R7, R22, R102, R152, R158, R164). -/
def Obligations.StepsKeepTimersSound : Prop :=
  ∀ s t : State, s.TimersSound → step s = .next t → t.TimersSound

/-- Every step from sound timers keeps the arbiters sound: Active exactly for Enabled corners in Running and Failsafe,
at the highest active level and its value, with the failsafe form active exactly in Failsafe and the guard form
exactly while the guard is Engaged (R72, R73, R78, R79, R83 to R86). -/
def Obligations.StepsKeepArbitersSound : Prop :=
  ∀ s t : State, s.TimersSound → s.ArbitersSound → step s = .next t → t.ArbitersSound

/-- The state after reset is sound in all of these ways. -/
def Obligations.ResetIsSound : Prop :=
  State.reset.link.Sound ∧ (∀ c, (State.reset.reg.get c).Sound) ∧ State.reset.PreviewSound ∧
  State.reset.QueuesBounded ∧ State.reset.TimersSound ∧ State.reset.ArbitersSound
end

