-- ==== Sys2Proof/Laws/State.lean ====
section
/-! SUPPORT. One lemma per field per update of State, each true by rfl, and the reads of the per-corner values. -/

namespace Sys2Proof

@[simp] theorem PerCorner.get_all {α : Type} (a : α) (c : Corner) : (PerCorner.all a).get c = a := by cases c <;> rfl

@[simp] theorem PerCorner.get_set_self {α : Type} (p : PerCorner α) (c : Corner) (a : α) : (p.set c a).get c = a := by
  cases c <;> rfl

theorem PerCorner.get_set_ne {α : Type} (p : PerCorner α) {c d : Corner} (a : α) (h : d ≠ c) :
    (p.set c a).get d = p.get d := by cases c <;> cases d <;> first | rfl | exact absurd rfl h

theorem PerCorner.get_set {α : Type} (p : PerCorner α) (c d : Corner) (a : α) :
    (p.set c a).get d = if d = c then a else p.get d := by cases c <;> cases d <;> rfl

@[simp] theorem PerCorner.get_mapIdx {α β : Type} (f : Corner → α → β) (p : PerCorner α) (c : Corner) :
    (p.mapIdx f).get c = f c (p.get c) := by cases c <;> rfl

@[simp] theorem PerCorner.set_get {α : Type} (p : PerCorner α) (c : Corner) : p.set c (p.get c) = p := by cases c <;> rfl

@[simp] theorem PerCorner.set_set {α : Type} (p : PerCorner α) (c : Corner) (a b : α) :
    (p.set c a).set c b = p.set c b := by cases c <;> rfl

theorem PerCorner.ext_get {α : Type} {p q : PerCorner α} (h : ∀ c, p.get c = q.get c) : p = q := by
  cases p; cases q
  have h1 := h .fl; have h2 := h .fr; have h3 := h .rl; have h4 := h .rr
  simp only [PerCorner.get] at h1 h2 h3 h4
  subst h1 h2 h3 h4; rfl

@[simp] theorem PerFront.get_set_self {α : Type} (p : PerFront α) (f : Front) (a : α) : (p.set f a).get f = a := by
  cases f <;> rfl

theorem PerFront.get_set {α : Type} (p : PerFront α) (f g : Front) (a : α) :
    (p.set f a).get g = if g = f then a else p.get g := by cases f <;> cases g <;> rfl

@[simp] theorem PerFront.set_get {α : Type} (p : PerFront α) (f : Front) : p.set f (p.get f) = p := by cases f <;> rfl

@[simp] theorem Front.other_other (f : Front) : f.other.other = f := by cases f <;> rfl

theorem Front.other_ne (f : Front) : f.other ≠ f := by cases f <;> decide

namespace Machine.State

@[simp] theorem setSensing_now (s : State) (c : Corner) (x : Sensing) : (s.setSensing c x).now = s.now := rfl
@[simp] theorem setSensing_choices (s : State) (c : Corner) (x : Sensing) : (s.setSensing c x).choices = s.choices := rfl
@[simp] theorem setSensing_pending (s : State) (c : Corner) (x : Sensing) : (s.setSensing c x).pending = s.pending := rfl
@[simp] theorem setSensing_resetLow (s : State) (c : Corner) (x : Sensing) : (s.setSensing c x).resetLow = s.resetLow := rfl
@[simp] theorem setSensing_control (s : State) (c : Corner) (x : Sensing) : (s.setSensing c x).control = s.control := rfl
@[simp] theorem setSensing_dist (s : State) (c : Corner) (x : Sensing) : (s.setSensing c x).dist = s.dist := rfl
@[simp] theorem setSensing_conv (s : State) (c : Corner) (x : Sensing) : (s.setSensing c x).conv = s.conv := rfl
@[simp] theorem setSensing_sensing (s : State) (c : Corner) (x : Sensing) : (s.setSensing c x).sensing = s.sensing.set c x := rfl
@[simp] theorem setSensing_preview (s : State) (c : Corner) (x : Sensing) : (s.setSensing c x).preview = s.preview := rfl
@[simp] theorem setSensing_window (s : State) (c : Corner) (x : Sensing) : (s.setSensing c x).window = s.window := rfl
@[simp] theorem setSensing_queue (s : State) (c : Corner) (x : Sensing) : (s.setSensing c x).queue = s.queue := rfl
@[simp] theorem setSensing_context (s : State) (c : Corner) (x : Sensing) : (s.setSensing c x).context = s.context := rfl
@[simp] theorem setSensing_arbiter (s : State) (c : Corner) (x : Sensing) : (s.setSensing c x).arbiter = s.arbiter := rfl
@[simp] theorem setSensing_guard (s : State) (c : Corner) (x : Sensing) : (s.setSensing c x).guard = s.guard := rfl
@[simp] theorem setSensing_mapper (s : State) (c : Corner) (x : Sensing) : (s.setSensing c x).mapper = s.mapper := rfl
@[simp] theorem setSensing_regulation (s : State) (c : Corner) (x : Sensing) : (s.setSensing c x).regulation = s.regulation := rfl
@[simp] theorem setSensing_reg (s : State) (c : Corner) (x : Sensing) : (s.setSensing c x).reg = s.reg := rfl
@[simp] theorem setSensing_supply (s : State) (c : Corner) (x : Sensing) : (s.setSensing c x).supply = s.supply := rfl
@[simp] theorem setSensing_link (s : State) (c : Corner) (x : Sensing) : (s.setSensing c x).link = s.link := rfl

@[simp] theorem setWindow_now (s : State) (f : Front) (x : Option Window) : (s.setWindow f x).now = s.now := rfl
@[simp] theorem setWindow_choices (s : State) (f : Front) (x : Option Window) : (s.setWindow f x).choices = s.choices := rfl
@[simp] theorem setWindow_pending (s : State) (f : Front) (x : Option Window) : (s.setWindow f x).pending = s.pending := rfl
@[simp] theorem setWindow_resetLow (s : State) (f : Front) (x : Option Window) : (s.setWindow f x).resetLow = s.resetLow := rfl
@[simp] theorem setWindow_control (s : State) (f : Front) (x : Option Window) : (s.setWindow f x).control = s.control := rfl
@[simp] theorem setWindow_dist (s : State) (f : Front) (x : Option Window) : (s.setWindow f x).dist = s.dist := rfl
@[simp] theorem setWindow_conv (s : State) (f : Front) (x : Option Window) : (s.setWindow f x).conv = s.conv := rfl
@[simp] theorem setWindow_sensing (s : State) (f : Front) (x : Option Window) : (s.setWindow f x).sensing = s.sensing := rfl
@[simp] theorem setWindow_preview (s : State) (f : Front) (x : Option Window) : (s.setWindow f x).preview = s.preview := rfl
@[simp] theorem setWindow_window (s : State) (f : Front) (x : Option Window) : (s.setWindow f x).window = s.window.set f x := rfl
@[simp] theorem setWindow_queue (s : State) (f : Front) (x : Option Window) : (s.setWindow f x).queue = s.queue := rfl
@[simp] theorem setWindow_context (s : State) (f : Front) (x : Option Window) : (s.setWindow f x).context = s.context := rfl
@[simp] theorem setWindow_arbiter (s : State) (f : Front) (x : Option Window) : (s.setWindow f x).arbiter = s.arbiter := rfl
@[simp] theorem setWindow_guard (s : State) (f : Front) (x : Option Window) : (s.setWindow f x).guard = s.guard := rfl
@[simp] theorem setWindow_mapper (s : State) (f : Front) (x : Option Window) : (s.setWindow f x).mapper = s.mapper := rfl
@[simp] theorem setWindow_regulation (s : State) (f : Front) (x : Option Window) : (s.setWindow f x).regulation = s.regulation := rfl
@[simp] theorem setWindow_reg (s : State) (f : Front) (x : Option Window) : (s.setWindow f x).reg = s.reg := rfl
@[simp] theorem setWindow_supply (s : State) (f : Front) (x : Option Window) : (s.setWindow f x).supply = s.supply := rfl
@[simp] theorem setWindow_link (s : State) (f : Front) (x : Option Window) : (s.setWindow f x).link = s.link := rfl

@[simp] theorem setQueue_now (s : State) (c : Corner) (x : List Entry) : (s.setQueue c x).now = s.now := rfl
@[simp] theorem setQueue_choices (s : State) (c : Corner) (x : List Entry) : (s.setQueue c x).choices = s.choices := rfl
@[simp] theorem setQueue_pending (s : State) (c : Corner) (x : List Entry) : (s.setQueue c x).pending = s.pending := rfl
@[simp] theorem setQueue_resetLow (s : State) (c : Corner) (x : List Entry) : (s.setQueue c x).resetLow = s.resetLow := rfl
@[simp] theorem setQueue_control (s : State) (c : Corner) (x : List Entry) : (s.setQueue c x).control = s.control := rfl
@[simp] theorem setQueue_dist (s : State) (c : Corner) (x : List Entry) : (s.setQueue c x).dist = s.dist := rfl
@[simp] theorem setQueue_conv (s : State) (c : Corner) (x : List Entry) : (s.setQueue c x).conv = s.conv := rfl
@[simp] theorem setQueue_sensing (s : State) (c : Corner) (x : List Entry) : (s.setQueue c x).sensing = s.sensing := rfl
@[simp] theorem setQueue_preview (s : State) (c : Corner) (x : List Entry) : (s.setQueue c x).preview = s.preview := rfl
@[simp] theorem setQueue_window (s : State) (c : Corner) (x : List Entry) : (s.setQueue c x).window = s.window := rfl
@[simp] theorem setQueue_queue (s : State) (c : Corner) (x : List Entry) : (s.setQueue c x).queue = s.queue.set c x := rfl
@[simp] theorem setQueue_context (s : State) (c : Corner) (x : List Entry) : (s.setQueue c x).context = s.context := rfl
@[simp] theorem setQueue_arbiter (s : State) (c : Corner) (x : List Entry) : (s.setQueue c x).arbiter = s.arbiter := rfl
@[simp] theorem setQueue_guard (s : State) (c : Corner) (x : List Entry) : (s.setQueue c x).guard = s.guard := rfl
@[simp] theorem setQueue_mapper (s : State) (c : Corner) (x : List Entry) : (s.setQueue c x).mapper = s.mapper := rfl
@[simp] theorem setQueue_regulation (s : State) (c : Corner) (x : List Entry) : (s.setQueue c x).regulation = s.regulation := rfl
@[simp] theorem setQueue_reg (s : State) (c : Corner) (x : List Entry) : (s.setQueue c x).reg = s.reg := rfl
@[simp] theorem setQueue_supply (s : State) (c : Corner) (x : List Entry) : (s.setQueue c x).supply = s.supply := rfl
@[simp] theorem setQueue_link (s : State) (c : Corner) (x : List Entry) : (s.setQueue c x).link = s.link := rfl

@[simp] theorem setContext_now (s : State) (c : Corner) (x : Option Context) : (s.setContext c x).now = s.now := rfl
@[simp] theorem setContext_choices (s : State) (c : Corner) (x : Option Context) : (s.setContext c x).choices = s.choices := rfl
@[simp] theorem setContext_pending (s : State) (c : Corner) (x : Option Context) : (s.setContext c x).pending = s.pending := rfl
@[simp] theorem setContext_resetLow (s : State) (c : Corner) (x : Option Context) : (s.setContext c x).resetLow = s.resetLow := rfl
@[simp] theorem setContext_control (s : State) (c : Corner) (x : Option Context) : (s.setContext c x).control = s.control := rfl
@[simp] theorem setContext_dist (s : State) (c : Corner) (x : Option Context) : (s.setContext c x).dist = s.dist := rfl
@[simp] theorem setContext_conv (s : State) (c : Corner) (x : Option Context) : (s.setContext c x).conv = s.conv := rfl
@[simp] theorem setContext_sensing (s : State) (c : Corner) (x : Option Context) : (s.setContext c x).sensing = s.sensing := rfl
@[simp] theorem setContext_preview (s : State) (c : Corner) (x : Option Context) : (s.setContext c x).preview = s.preview := rfl
@[simp] theorem setContext_window (s : State) (c : Corner) (x : Option Context) : (s.setContext c x).window = s.window := rfl
@[simp] theorem setContext_queue (s : State) (c : Corner) (x : Option Context) : (s.setContext c x).queue = s.queue := rfl
@[simp] theorem setContext_context (s : State) (c : Corner) (x : Option Context) : (s.setContext c x).context = s.context.set c x := rfl
@[simp] theorem setContext_arbiter (s : State) (c : Corner) (x : Option Context) : (s.setContext c x).arbiter = s.arbiter := rfl
@[simp] theorem setContext_guard (s : State) (c : Corner) (x : Option Context) : (s.setContext c x).guard = s.guard := rfl
@[simp] theorem setContext_mapper (s : State) (c : Corner) (x : Option Context) : (s.setContext c x).mapper = s.mapper := rfl
@[simp] theorem setContext_regulation (s : State) (c : Corner) (x : Option Context) : (s.setContext c x).regulation = s.regulation := rfl
@[simp] theorem setContext_reg (s : State) (c : Corner) (x : Option Context) : (s.setContext c x).reg = s.reg := rfl
@[simp] theorem setContext_supply (s : State) (c : Corner) (x : Option Context) : (s.setContext c x).supply = s.supply := rfl
@[simp] theorem setContext_link (s : State) (c : Corner) (x : Option Context) : (s.setContext c x).link = s.link := rfl

@[simp] theorem setArbiter_now (s : State) (c : Corner) (x : Arbiter) : (s.setArbiter c x).now = s.now := rfl
@[simp] theorem setArbiter_choices (s : State) (c : Corner) (x : Arbiter) : (s.setArbiter c x).choices = s.choices := rfl
@[simp] theorem setArbiter_pending (s : State) (c : Corner) (x : Arbiter) : (s.setArbiter c x).pending = s.pending := rfl
@[simp] theorem setArbiter_resetLow (s : State) (c : Corner) (x : Arbiter) : (s.setArbiter c x).resetLow = s.resetLow := rfl
@[simp] theorem setArbiter_control (s : State) (c : Corner) (x : Arbiter) : (s.setArbiter c x).control = s.control := rfl
@[simp] theorem setArbiter_dist (s : State) (c : Corner) (x : Arbiter) : (s.setArbiter c x).dist = s.dist := rfl
@[simp] theorem setArbiter_conv (s : State) (c : Corner) (x : Arbiter) : (s.setArbiter c x).conv = s.conv := rfl
@[simp] theorem setArbiter_sensing (s : State) (c : Corner) (x : Arbiter) : (s.setArbiter c x).sensing = s.sensing := rfl
@[simp] theorem setArbiter_preview (s : State) (c : Corner) (x : Arbiter) : (s.setArbiter c x).preview = s.preview := rfl
@[simp] theorem setArbiter_window (s : State) (c : Corner) (x : Arbiter) : (s.setArbiter c x).window = s.window := rfl
@[simp] theorem setArbiter_queue (s : State) (c : Corner) (x : Arbiter) : (s.setArbiter c x).queue = s.queue := rfl
@[simp] theorem setArbiter_context (s : State) (c : Corner) (x : Arbiter) : (s.setArbiter c x).context = s.context := rfl
@[simp] theorem setArbiter_arbiter (s : State) (c : Corner) (x : Arbiter) : (s.setArbiter c x).arbiter = s.arbiter.set c x := rfl
@[simp] theorem setArbiter_guard (s : State) (c : Corner) (x : Arbiter) : (s.setArbiter c x).guard = s.guard := rfl
@[simp] theorem setArbiter_mapper (s : State) (c : Corner) (x : Arbiter) : (s.setArbiter c x).mapper = s.mapper := rfl
@[simp] theorem setArbiter_regulation (s : State) (c : Corner) (x : Arbiter) : (s.setArbiter c x).regulation = s.regulation := rfl
@[simp] theorem setArbiter_reg (s : State) (c : Corner) (x : Arbiter) : (s.setArbiter c x).reg = s.reg := rfl
@[simp] theorem setArbiter_supply (s : State) (c : Corner) (x : Arbiter) : (s.setArbiter c x).supply = s.supply := rfl
@[simp] theorem setArbiter_link (s : State) (c : Corner) (x : Arbiter) : (s.setArbiter c x).link = s.link := rfl

@[simp] theorem setGuard_now (s : State) (c : Corner) (x : Guard) : (s.setGuard c x).now = s.now := rfl
@[simp] theorem setGuard_choices (s : State) (c : Corner) (x : Guard) : (s.setGuard c x).choices = s.choices := rfl
@[simp] theorem setGuard_pending (s : State) (c : Corner) (x : Guard) : (s.setGuard c x).pending = s.pending := rfl
@[simp] theorem setGuard_resetLow (s : State) (c : Corner) (x : Guard) : (s.setGuard c x).resetLow = s.resetLow := rfl
@[simp] theorem setGuard_control (s : State) (c : Corner) (x : Guard) : (s.setGuard c x).control = s.control := rfl
@[simp] theorem setGuard_dist (s : State) (c : Corner) (x : Guard) : (s.setGuard c x).dist = s.dist := rfl
@[simp] theorem setGuard_conv (s : State) (c : Corner) (x : Guard) : (s.setGuard c x).conv = s.conv := rfl
@[simp] theorem setGuard_sensing (s : State) (c : Corner) (x : Guard) : (s.setGuard c x).sensing = s.sensing := rfl
@[simp] theorem setGuard_preview (s : State) (c : Corner) (x : Guard) : (s.setGuard c x).preview = s.preview := rfl
@[simp] theorem setGuard_window (s : State) (c : Corner) (x : Guard) : (s.setGuard c x).window = s.window := rfl
@[simp] theorem setGuard_queue (s : State) (c : Corner) (x : Guard) : (s.setGuard c x).queue = s.queue := rfl
@[simp] theorem setGuard_context (s : State) (c : Corner) (x : Guard) : (s.setGuard c x).context = s.context := rfl
@[simp] theorem setGuard_arbiter (s : State) (c : Corner) (x : Guard) : (s.setGuard c x).arbiter = s.arbiter := rfl
@[simp] theorem setGuard_guard (s : State) (c : Corner) (x : Guard) : (s.setGuard c x).guard = s.guard.set c x := rfl
@[simp] theorem setGuard_mapper (s : State) (c : Corner) (x : Guard) : (s.setGuard c x).mapper = s.mapper := rfl
@[simp] theorem setGuard_regulation (s : State) (c : Corner) (x : Guard) : (s.setGuard c x).regulation = s.regulation := rfl
@[simp] theorem setGuard_reg (s : State) (c : Corner) (x : Guard) : (s.setGuard c x).reg = s.reg := rfl
@[simp] theorem setGuard_supply (s : State) (c : Corner) (x : Guard) : (s.setGuard c x).supply = s.supply := rfl
@[simp] theorem setGuard_link (s : State) (c : Corner) (x : Guard) : (s.setGuard c x).link = s.link := rfl

@[simp] theorem setMapper_now (s : State) (c : Corner) (x : Mapper) : (s.setMapper c x).now = s.now := rfl
@[simp] theorem setMapper_choices (s : State) (c : Corner) (x : Mapper) : (s.setMapper c x).choices = s.choices := rfl
@[simp] theorem setMapper_pending (s : State) (c : Corner) (x : Mapper) : (s.setMapper c x).pending = s.pending := rfl
@[simp] theorem setMapper_resetLow (s : State) (c : Corner) (x : Mapper) : (s.setMapper c x).resetLow = s.resetLow := rfl
@[simp] theorem setMapper_control (s : State) (c : Corner) (x : Mapper) : (s.setMapper c x).control = s.control := rfl
@[simp] theorem setMapper_dist (s : State) (c : Corner) (x : Mapper) : (s.setMapper c x).dist = s.dist := rfl
@[simp] theorem setMapper_conv (s : State) (c : Corner) (x : Mapper) : (s.setMapper c x).conv = s.conv := rfl
@[simp] theorem setMapper_sensing (s : State) (c : Corner) (x : Mapper) : (s.setMapper c x).sensing = s.sensing := rfl
@[simp] theorem setMapper_preview (s : State) (c : Corner) (x : Mapper) : (s.setMapper c x).preview = s.preview := rfl
@[simp] theorem setMapper_window (s : State) (c : Corner) (x : Mapper) : (s.setMapper c x).window = s.window := rfl
@[simp] theorem setMapper_queue (s : State) (c : Corner) (x : Mapper) : (s.setMapper c x).queue = s.queue := rfl
@[simp] theorem setMapper_context (s : State) (c : Corner) (x : Mapper) : (s.setMapper c x).context = s.context := rfl
@[simp] theorem setMapper_arbiter (s : State) (c : Corner) (x : Mapper) : (s.setMapper c x).arbiter = s.arbiter := rfl
@[simp] theorem setMapper_guard (s : State) (c : Corner) (x : Mapper) : (s.setMapper c x).guard = s.guard := rfl
@[simp] theorem setMapper_mapper (s : State) (c : Corner) (x : Mapper) : (s.setMapper c x).mapper = s.mapper.set c x := rfl
@[simp] theorem setMapper_regulation (s : State) (c : Corner) (x : Mapper) : (s.setMapper c x).regulation = s.regulation := rfl
@[simp] theorem setMapper_reg (s : State) (c : Corner) (x : Mapper) : (s.setMapper c x).reg = s.reg := rfl
@[simp] theorem setMapper_supply (s : State) (c : Corner) (x : Mapper) : (s.setMapper c x).supply = s.supply := rfl
@[simp] theorem setMapper_link (s : State) (c : Corner) (x : Mapper) : (s.setMapper c x).link = s.link := rfl

@[simp] theorem setReg_now (s : State) (c : Corner) (x : Regulator) : (s.setReg c x).now = s.now := rfl
@[simp] theorem setReg_choices (s : State) (c : Corner) (x : Regulator) : (s.setReg c x).choices = s.choices := rfl
@[simp] theorem setReg_pending (s : State) (c : Corner) (x : Regulator) : (s.setReg c x).pending = s.pending := rfl
@[simp] theorem setReg_resetLow (s : State) (c : Corner) (x : Regulator) : (s.setReg c x).resetLow = s.resetLow := rfl
@[simp] theorem setReg_control (s : State) (c : Corner) (x : Regulator) : (s.setReg c x).control = s.control := rfl
@[simp] theorem setReg_dist (s : State) (c : Corner) (x : Regulator) : (s.setReg c x).dist = s.dist := rfl
@[simp] theorem setReg_conv (s : State) (c : Corner) (x : Regulator) : (s.setReg c x).conv = s.conv := rfl
@[simp] theorem setReg_sensing (s : State) (c : Corner) (x : Regulator) : (s.setReg c x).sensing = s.sensing := rfl
@[simp] theorem setReg_preview (s : State) (c : Corner) (x : Regulator) : (s.setReg c x).preview = s.preview := rfl
@[simp] theorem setReg_window (s : State) (c : Corner) (x : Regulator) : (s.setReg c x).window = s.window := rfl
@[simp] theorem setReg_queue (s : State) (c : Corner) (x : Regulator) : (s.setReg c x).queue = s.queue := rfl
@[simp] theorem setReg_context (s : State) (c : Corner) (x : Regulator) : (s.setReg c x).context = s.context := rfl
@[simp] theorem setReg_arbiter (s : State) (c : Corner) (x : Regulator) : (s.setReg c x).arbiter = s.arbiter := rfl
@[simp] theorem setReg_guard (s : State) (c : Corner) (x : Regulator) : (s.setReg c x).guard = s.guard := rfl
@[simp] theorem setReg_mapper (s : State) (c : Corner) (x : Regulator) : (s.setReg c x).mapper = s.mapper := rfl
@[simp] theorem setReg_regulation (s : State) (c : Corner) (x : Regulator) : (s.setReg c x).regulation = s.regulation := rfl
@[simp] theorem setReg_reg (s : State) (c : Corner) (x : Regulator) : (s.setReg c x).reg = s.reg.set c x := rfl
@[simp] theorem setReg_supply (s : State) (c : Corner) (x : Regulator) : (s.setReg c x).supply = s.supply := rfl
@[simp] theorem setReg_link (s : State) (c : Corner) (x : Regulator) : (s.setReg c x).link = s.link := rfl

@[simp] theorem setLink_now (s : State) (x : LinkState) : (s.setLink x).now = s.now := rfl
@[simp] theorem setLink_choices (s : State) (x : LinkState) : (s.setLink x).choices = s.choices := rfl
@[simp] theorem setLink_pending (s : State) (x : LinkState) : (s.setLink x).pending = s.pending := rfl
@[simp] theorem setLink_resetLow (s : State) (x : LinkState) : (s.setLink x).resetLow = s.resetLow := rfl
@[simp] theorem setLink_control (s : State) (x : LinkState) : (s.setLink x).control = s.control := rfl
@[simp] theorem setLink_dist (s : State) (x : LinkState) : (s.setLink x).dist = s.dist := rfl
@[simp] theorem setLink_conv (s : State) (x : LinkState) : (s.setLink x).conv = s.conv := rfl
@[simp] theorem setLink_sensing (s : State) (x : LinkState) : (s.setLink x).sensing = s.sensing := rfl
@[simp] theorem setLink_preview (s : State) (x : LinkState) : (s.setLink x).preview = s.preview := rfl
@[simp] theorem setLink_window (s : State) (x : LinkState) : (s.setLink x).window = s.window := rfl
@[simp] theorem setLink_queue (s : State) (x : LinkState) : (s.setLink x).queue = s.queue := rfl
@[simp] theorem setLink_context (s : State) (x : LinkState) : (s.setLink x).context = s.context := rfl
@[simp] theorem setLink_arbiter (s : State) (x : LinkState) : (s.setLink x).arbiter = s.arbiter := rfl
@[simp] theorem setLink_guard (s : State) (x : LinkState) : (s.setLink x).guard = s.guard := rfl
@[simp] theorem setLink_mapper (s : State) (x : LinkState) : (s.setLink x).mapper = s.mapper := rfl
@[simp] theorem setLink_regulation (s : State) (x : LinkState) : (s.setLink x).regulation = s.regulation := rfl
@[simp] theorem setLink_reg (s : State) (x : LinkState) : (s.setLink x).reg = s.reg := rfl
@[simp] theorem setLink_supply (s : State) (x : LinkState) : (s.setLink x).supply = s.supply := rfl
@[simp] theorem setLink_link (s : State) (x : LinkState) : (s.setLink x).link = x := rfl

@[simp] theorem setDist_now (s : State) (x : Distance) : (s.setDist x).now = s.now := rfl
@[simp] theorem setDist_choices (s : State) (x : Distance) : (s.setDist x).choices = s.choices := rfl
@[simp] theorem setDist_pending (s : State) (x : Distance) : (s.setDist x).pending = s.pending := rfl
@[simp] theorem setDist_resetLow (s : State) (x : Distance) : (s.setDist x).resetLow = s.resetLow := rfl
@[simp] theorem setDist_control (s : State) (x : Distance) : (s.setDist x).control = s.control := rfl
@[simp] theorem setDist_dist (s : State) (x : Distance) : (s.setDist x).dist = x := rfl
@[simp] theorem setDist_conv (s : State) (x : Distance) : (s.setDist x).conv = s.conv := rfl
@[simp] theorem setDist_sensing (s : State) (x : Distance) : (s.setDist x).sensing = s.sensing := rfl
@[simp] theorem setDist_preview (s : State) (x : Distance) : (s.setDist x).preview = s.preview := rfl
@[simp] theorem setDist_window (s : State) (x : Distance) : (s.setDist x).window = s.window := rfl
@[simp] theorem setDist_queue (s : State) (x : Distance) : (s.setDist x).queue = s.queue := rfl
@[simp] theorem setDist_context (s : State) (x : Distance) : (s.setDist x).context = s.context := rfl
@[simp] theorem setDist_arbiter (s : State) (x : Distance) : (s.setDist x).arbiter = s.arbiter := rfl
@[simp] theorem setDist_guard (s : State) (x : Distance) : (s.setDist x).guard = s.guard := rfl
@[simp] theorem setDist_mapper (s : State) (x : Distance) : (s.setDist x).mapper = s.mapper := rfl
@[simp] theorem setDist_regulation (s : State) (x : Distance) : (s.setDist x).regulation = s.regulation := rfl
@[simp] theorem setDist_reg (s : State) (x : Distance) : (s.setDist x).reg = s.reg := rfl
@[simp] theorem setDist_supply (s : State) (x : Distance) : (s.setDist x).supply = s.supply := rfl
@[simp] theorem setDist_link (s : State) (x : Distance) : (s.setDist x).link = s.link := rfl

@[simp] theorem setControl_now (s : State) (x : Control) : (s.setControl x).now = s.now := rfl
@[simp] theorem setControl_choices (s : State) (x : Control) : (s.setControl x).choices = s.choices := rfl
@[simp] theorem setControl_pending (s : State) (x : Control) : (s.setControl x).pending = s.pending := rfl
@[simp] theorem setControl_resetLow (s : State) (x : Control) : (s.setControl x).resetLow = s.resetLow := rfl
@[simp] theorem setControl_control (s : State) (x : Control) : (s.setControl x).control = x := rfl
@[simp] theorem setControl_dist (s : State) (x : Control) : (s.setControl x).dist = s.dist := rfl
@[simp] theorem setControl_conv (s : State) (x : Control) : (s.setControl x).conv = s.conv := rfl
@[simp] theorem setControl_sensing (s : State) (x : Control) : (s.setControl x).sensing = s.sensing := rfl
@[simp] theorem setControl_preview (s : State) (x : Control) : (s.setControl x).preview = s.preview := rfl
@[simp] theorem setControl_window (s : State) (x : Control) : (s.setControl x).window = s.window := rfl
@[simp] theorem setControl_queue (s : State) (x : Control) : (s.setControl x).queue = s.queue := rfl
@[simp] theorem setControl_context (s : State) (x : Control) : (s.setControl x).context = s.context := rfl
@[simp] theorem setControl_arbiter (s : State) (x : Control) : (s.setControl x).arbiter = s.arbiter := rfl
@[simp] theorem setControl_guard (s : State) (x : Control) : (s.setControl x).guard = s.guard := rfl
@[simp] theorem setControl_mapper (s : State) (x : Control) : (s.setControl x).mapper = s.mapper := rfl
@[simp] theorem setControl_regulation (s : State) (x : Control) : (s.setControl x).regulation = s.regulation := rfl
@[simp] theorem setControl_reg (s : State) (x : Control) : (s.setControl x).reg = s.reg := rfl
@[simp] theorem setControl_supply (s : State) (x : Control) : (s.setControl x).supply = s.supply := rfl
@[simp] theorem setControl_link (s : State) (x : Control) : (s.setControl x).link = s.link := rfl

@[simp] theorem setPreview_now (s : State) (x : Preview) : (s.setPreview x).now = s.now := rfl
@[simp] theorem setPreview_choices (s : State) (x : Preview) : (s.setPreview x).choices = s.choices := rfl
@[simp] theorem setPreview_pending (s : State) (x : Preview) : (s.setPreview x).pending = s.pending := rfl
@[simp] theorem setPreview_resetLow (s : State) (x : Preview) : (s.setPreview x).resetLow = s.resetLow := rfl
@[simp] theorem setPreview_control (s : State) (x : Preview) : (s.setPreview x).control = s.control := rfl
@[simp] theorem setPreview_dist (s : State) (x : Preview) : (s.setPreview x).dist = s.dist := rfl
@[simp] theorem setPreview_conv (s : State) (x : Preview) : (s.setPreview x).conv = s.conv := rfl
@[simp] theorem setPreview_sensing (s : State) (x : Preview) : (s.setPreview x).sensing = s.sensing := rfl
@[simp] theorem setPreview_preview (s : State) (x : Preview) : (s.setPreview x).preview = x := rfl
@[simp] theorem setPreview_window (s : State) (x : Preview) : (s.setPreview x).window = s.window := rfl
@[simp] theorem setPreview_queue (s : State) (x : Preview) : (s.setPreview x).queue = s.queue := rfl
@[simp] theorem setPreview_context (s : State) (x : Preview) : (s.setPreview x).context = s.context := rfl
@[simp] theorem setPreview_arbiter (s : State) (x : Preview) : (s.setPreview x).arbiter = s.arbiter := rfl
@[simp] theorem setPreview_guard (s : State) (x : Preview) : (s.setPreview x).guard = s.guard := rfl
@[simp] theorem setPreview_mapper (s : State) (x : Preview) : (s.setPreview x).mapper = s.mapper := rfl
@[simp] theorem setPreview_regulation (s : State) (x : Preview) : (s.setPreview x).regulation = s.regulation := rfl
@[simp] theorem setPreview_reg (s : State) (x : Preview) : (s.setPreview x).reg = s.reg := rfl
@[simp] theorem setPreview_supply (s : State) (x : Preview) : (s.setPreview x).supply = s.supply := rfl
@[simp] theorem setPreview_link (s : State) (x : Preview) : (s.setPreview x).link = s.link := rfl

@[simp] theorem setConv_now (s : State) (x : Converter) : (s.setConv x).now = s.now := rfl
@[simp] theorem setConv_choices (s : State) (x : Converter) : (s.setConv x).choices = s.choices := rfl
@[simp] theorem setConv_pending (s : State) (x : Converter) : (s.setConv x).pending = s.pending := rfl
@[simp] theorem setConv_resetLow (s : State) (x : Converter) : (s.setConv x).resetLow = s.resetLow := rfl
@[simp] theorem setConv_control (s : State) (x : Converter) : (s.setConv x).control = s.control := rfl
@[simp] theorem setConv_dist (s : State) (x : Converter) : (s.setConv x).dist = s.dist := rfl
@[simp] theorem setConv_conv (s : State) (x : Converter) : (s.setConv x).conv = x := rfl
@[simp] theorem setConv_sensing (s : State) (x : Converter) : (s.setConv x).sensing = s.sensing := rfl
@[simp] theorem setConv_preview (s : State) (x : Converter) : (s.setConv x).preview = s.preview := rfl
@[simp] theorem setConv_window (s : State) (x : Converter) : (s.setConv x).window = s.window := rfl
@[simp] theorem setConv_queue (s : State) (x : Converter) : (s.setConv x).queue = s.queue := rfl
@[simp] theorem setConv_context (s : State) (x : Converter) : (s.setConv x).context = s.context := rfl
@[simp] theorem setConv_arbiter (s : State) (x : Converter) : (s.setConv x).arbiter = s.arbiter := rfl
@[simp] theorem setConv_guard (s : State) (x : Converter) : (s.setConv x).guard = s.guard := rfl
@[simp] theorem setConv_mapper (s : State) (x : Converter) : (s.setConv x).mapper = s.mapper := rfl
@[simp] theorem setConv_regulation (s : State) (x : Converter) : (s.setConv x).regulation = s.regulation := rfl
@[simp] theorem setConv_reg (s : State) (x : Converter) : (s.setConv x).reg = s.reg := rfl
@[simp] theorem setConv_supply (s : State) (x : Converter) : (s.setConv x).supply = s.supply := rfl
@[simp] theorem setConv_link (s : State) (x : Converter) : (s.setConv x).link = s.link := rfl

@[simp] theorem setSupply_now (s : State) (x : Supply) : (s.setSupply x).now = s.now := rfl
@[simp] theorem setSupply_choices (s : State) (x : Supply) : (s.setSupply x).choices = s.choices := rfl
@[simp] theorem setSupply_pending (s : State) (x : Supply) : (s.setSupply x).pending = s.pending := rfl
@[simp] theorem setSupply_resetLow (s : State) (x : Supply) : (s.setSupply x).resetLow = s.resetLow := rfl
@[simp] theorem setSupply_control (s : State) (x : Supply) : (s.setSupply x).control = s.control := rfl
@[simp] theorem setSupply_dist (s : State) (x : Supply) : (s.setSupply x).dist = s.dist := rfl
@[simp] theorem setSupply_conv (s : State) (x : Supply) : (s.setSupply x).conv = s.conv := rfl
@[simp] theorem setSupply_sensing (s : State) (x : Supply) : (s.setSupply x).sensing = s.sensing := rfl
@[simp] theorem setSupply_preview (s : State) (x : Supply) : (s.setSupply x).preview = s.preview := rfl
@[simp] theorem setSupply_window (s : State) (x : Supply) : (s.setSupply x).window = s.window := rfl
@[simp] theorem setSupply_queue (s : State) (x : Supply) : (s.setSupply x).queue = s.queue := rfl
@[simp] theorem setSupply_context (s : State) (x : Supply) : (s.setSupply x).context = s.context := rfl
@[simp] theorem setSupply_arbiter (s : State) (x : Supply) : (s.setSupply x).arbiter = s.arbiter := rfl
@[simp] theorem setSupply_guard (s : State) (x : Supply) : (s.setSupply x).guard = s.guard := rfl
@[simp] theorem setSupply_mapper (s : State) (x : Supply) : (s.setSupply x).mapper = s.mapper := rfl
@[simp] theorem setSupply_regulation (s : State) (x : Supply) : (s.setSupply x).regulation = s.regulation := rfl
@[simp] theorem setSupply_reg (s : State) (x : Supply) : (s.setSupply x).reg = s.reg := rfl
@[simp] theorem setSupply_supply (s : State) (x : Supply) : (s.setSupply x).supply = x := rfl
@[simp] theorem setSupply_link (s : State) (x : Supply) : (s.setSupply x).link = s.link := rfl

@[simp] theorem reachTime_now (s : State) (t : Nat) : (s.reachTime t).now = max s.now t := rfl
@[simp] theorem reachTime_choices (s : State) (t : Nat) : (s.reachTime t).choices = s.choices := rfl
@[simp] theorem reachTime_pending (s : State) (t : Nat) : (s.reachTime t).pending = s.pending := rfl
@[simp] theorem reachTime_resetLow (s : State) (t : Nat) : (s.reachTime t).resetLow = s.resetLow := rfl
@[simp] theorem reachTime_control (s : State) (t : Nat) : (s.reachTime t).control = s.control := rfl
@[simp] theorem reachTime_dist (s : State) (t : Nat) : (s.reachTime t).dist = s.dist := rfl
@[simp] theorem reachTime_conv (s : State) (t : Nat) : (s.reachTime t).conv = s.conv := rfl
@[simp] theorem reachTime_sensing (s : State) (t : Nat) : (s.reachTime t).sensing = s.sensing := rfl
@[simp] theorem reachTime_preview (s : State) (t : Nat) : (s.reachTime t).preview = s.preview := rfl
@[simp] theorem reachTime_window (s : State) (t : Nat) : (s.reachTime t).window = s.window := rfl
@[simp] theorem reachTime_queue (s : State) (t : Nat) : (s.reachTime t).queue = s.queue := rfl
@[simp] theorem reachTime_context (s : State) (t : Nat) : (s.reachTime t).context = s.context := rfl
@[simp] theorem reachTime_arbiter (s : State) (t : Nat) : (s.reachTime t).arbiter = s.arbiter := rfl
@[simp] theorem reachTime_guard (s : State) (t : Nat) : (s.reachTime t).guard = s.guard := rfl
@[simp] theorem reachTime_mapper (s : State) (t : Nat) : (s.reachTime t).mapper = s.mapper := rfl
@[simp] theorem reachTime_regulation (s : State) (t : Nat) : (s.reachTime t).regulation = s.regulation := rfl
@[simp] theorem reachTime_reg (s : State) (t : Nat) : (s.reachTime t).reg = s.reg := rfl
@[simp] theorem reachTime_supply (s : State) (t : Nat) : (s.reachTime t).supply = s.supply := rfl
@[simp] theorem reachTime_link (s : State) (t : Nat) : (s.reachTime t).link = s.link := rfl

@[simp] theorem spend_now (s : State) (n : Nat) : (s.spend n).now = s.now := rfl
@[simp] theorem spend_choices (s : State) (n : Nat) : (s.spend n).choices = s.choices + n := rfl
@[simp] theorem spend_pending (s : State) (n : Nat) : (s.spend n).pending = s.pending := rfl
@[simp] theorem spend_resetLow (s : State) (n : Nat) : (s.spend n).resetLow = s.resetLow := rfl
@[simp] theorem spend_control (s : State) (n : Nat) : (s.spend n).control = s.control := rfl
@[simp] theorem spend_dist (s : State) (n : Nat) : (s.spend n).dist = s.dist := rfl
@[simp] theorem spend_conv (s : State) (n : Nat) : (s.spend n).conv = s.conv := rfl
@[simp] theorem spend_sensing (s : State) (n : Nat) : (s.spend n).sensing = s.sensing := rfl
@[simp] theorem spend_preview (s : State) (n : Nat) : (s.spend n).preview = s.preview := rfl
@[simp] theorem spend_window (s : State) (n : Nat) : (s.spend n).window = s.window := rfl
@[simp] theorem spend_queue (s : State) (n : Nat) : (s.spend n).queue = s.queue := rfl
@[simp] theorem spend_context (s : State) (n : Nat) : (s.spend n).context = s.context := rfl
@[simp] theorem spend_arbiter (s : State) (n : Nat) : (s.spend n).arbiter = s.arbiter := rfl
@[simp] theorem spend_guard (s : State) (n : Nat) : (s.spend n).guard = s.guard := rfl
@[simp] theorem spend_mapper (s : State) (n : Nat) : (s.spend n).mapper = s.mapper := rfl
@[simp] theorem spend_regulation (s : State) (n : Nat) : (s.spend n).regulation = s.regulation := rfl
@[simp] theorem spend_reg (s : State) (n : Nat) : (s.spend n).reg = s.reg := rfl
@[simp] theorem spend_supply (s : State) (n : Nat) : (s.spend n).supply = s.supply := rfl
@[simp] theorem spend_link (s : State) (n : Nat) : (s.spend n).link = s.link := rfl

end Machine.State

end Sys2Proof
end

