-- ==== Sys2Proof/Laws/Link.lean ====
section
/-! SUPPORT. The event queue and the reply queue: what `record`, `queueEvent`, `placeReply` and `answerTest` can do. -/

namespace Sys2Proof.Machine

/-- Everything taking a record does: only the events, the overflow mark and ATN can change. -/
theorem LinkState.record_frame (e : Event) (l : LinkState) :
    ∃ ev ov at', l.record e = { l with events := ev, overflow := ov, atn := at' } := by
  unfold LinkState.record
  split
  · split
    · exact ⟨_, l.overflow, l.atn, rfl⟩
    · split
      · exact ⟨_, l.overflow, true, rfl⟩
      · exact ⟨l.events, true, l.atn, rfl⟩
  · exact ⟨_, l.overflow, true, rfl⟩

@[simp] theorem LinkState.record_selnLow (e : Event) (l : LinkState) : (l.record e).selnLow = l.selnLow := by
  obtain ⟨_, _, _, h⟩ := l.record_frame e; rw [h]
@[simp] theorem LinkState.record_sdo (e : Event) (l : LinkState) : (l.record e).sdo = l.sdo := by
  obtain ⟨_, _, _, h⟩ := l.record_frame e; rw [h]
@[simp] theorem LinkState.record_outbound (e : Event) (l : LinkState) : (l.record e).outbound = l.outbound := by
  obtain ⟨_, _, _, h⟩ := l.record_frame e; rw [h]
@[simp] theorem LinkState.record_sent (e : Event) (l : LinkState) : (l.record e).sent = l.sent := by
  obtain ⟨_, _, _, h⟩ := l.record_frame e; rw [h]
@[simp] theorem LinkState.record_assembly (e : Event) (l : LinkState) : (l.record e).assembly = l.assembly := by
  obtain ⟨_, _, _, h⟩ := l.record_frame e; rw [h]
@[simp] theorem LinkState.record_received (e : Event) (l : LinkState) : (l.record e).received = l.received := by
  obtain ⟨_, _, _, h⟩ := l.record_frame e; rw [h]
@[simp] theorem LinkState.record_inbound (e : Event) (l : LinkState) : (l.record e).inbound = l.inbound := by
  obtain ⟨_, _, _, h⟩ := l.record_frame e; rw [h]
@[simp] theorem LinkState.record_replies (e : Event) (l : LinkState) : (l.record e).replies = l.replies := by
  obtain ⟨_, _, _, h⟩ := l.record_frame e; rw [h]
@[simp] theorem LinkState.record_reservations (e : Event) (l : LinkState) :
    (l.record e).reservations = l.reservations := by
  obtain ⟨_, _, _, h⟩ := l.record_frame e; rw [h]
@[simp] theorem LinkState.record_inflight (e : Event) (l : LinkState) : (l.record e).inflight = l.inflight := by
  obtain ⟨_, _, _, h⟩ := l.record_frame e; rw [h]
@[simp] theorem LinkState.record_outstanding (e : Event) (l : LinkState) :
    (l.record e).outstanding = l.outstanding := by
  simp [LinkState.outstanding]

/-- The event queue never grows past 16 by a record. -/
theorem LinkState.record_length (e : Event) (l : LinkState) (h : l.events.length ≤ 16) :
    (l.record e).events.length ≤ 16 := by
  unfold LinkState.record
  split
  · rename_i n hn
    have hne : l.events ≠ [] := by rintro h0; simp [h0] at hn
    have := List.length_pos_iff.mpr hne
    split
    · simp; omega
    · split
      · simp; omega
      · exact h
  · simp

/-- After a record the queue is not empty. -/
theorem LinkState.record_ne_nil (e : Event) (l : LinkState) : (l.record e).events ≠ [] := by
  unfold LinkState.record
  split
  · rename_i n hn
    split
    · simp
    · split
      · simp
      · intro h0; rw [show l.events = [] from h0] at hn; cases hn
  · exact List.cons_ne_nil _ _

/-- ATN agrees with the queue after a record if it did before. -/
theorem LinkState.record_atn (e : Event) (l : LinkState) (h : l.atn = !l.events.isEmpty) : (l.record e).atn = true := by
  unfold LinkState.record
  split
  · rename_i n hn
    have hat : l.atn = true := by
      rw [h]; cases he : l.events with
      | nil => simp [he] at hn
      | cons a as => rfl
    split
    · exact hat
    · split
      · rfl
      · exact hat
  · rfl

/-- A record keeps the link sound. -/
theorem LinkState.record_sound (e : Event) (l : LinkState) (h : l.Sound) : (l.record e).Sound := by
  obtain ⟨h1, h2, h3, h4, h5, h6⟩ := h
  refine ⟨by simpa using h1, by simpa using h2, l.record_length e h3, ?_, by simpa using h5, by simpa using h6⟩
  rw [l.record_atn e h4]
  simp [l.record_ne_nil e]

/-- Queueing an event record changes the link only. -/
theorem queueEvent_eq (e : Event) (s : State) : queueEvent e s = { s with link := s.link.record e } := rfl

/-- Placing a reply changes the reply queue only. -/
theorem placeReply_eq (kind tag : Byte) (status : Status) (payload : List Byte) (s : State) :
    placeReply kind tag status payload s =
      { s with link := { s.link with
        replies := s.link.replies ++ [⟨kind, tag, status, summary s, payload⟩] } } := rfl

/-- Everything answering a CoilTest does: nothing when none is in flight, else CoilTest waiting cleared, the slot emptied and
the reservation turned into a reply. -/
theorem answerTest_cases (c : Corner) (status : Status) (payload : List Byte) (s : State) :
    (s.link.inflight.get c = none ∧ answerTest c status payload s = s) ∨
    ∃ tag, s.link.inflight.get c = some tag ∧
      answerTest c status payload s = { s with
        reg := s.reg.set c { s.reg.get c with testWaiting := false },
        link := { s.link with
          inflight := s.link.inflight.set c none, reservations := s.link.reservations - 1,
          replies := s.link.replies ++ [⟨0xC4, tag, status, summary s, payload⟩] } } := by
  unfold answerTest
  split
  · exact .inl ⟨‹_›, rfl⟩
  · exact .inr ⟨_, ‹_›, rfl⟩

/-- The number of CoilTests in flight. -/
def LinkState.tests (l : LinkState) : Nat := (Corner.list.filter fun c => (l.inflight.get c).isSome).length

theorem LinkState.tests_set_none (l : LinkState) (c : Corner) (h : (l.inflight.get c).isSome) :
    (Corner.list.filter fun d => ((l.inflight.set c none).get d).isSome).length + 1 = l.tests := by
  rcases hl : l.inflight with ⟨a, b, d, e⟩
  cases c <;> cases a <;> cases b <;> cases d <;> cases e <;>
    simp_all [LinkState.tests, Corner.list, PerCorner.get, PerCorner.set, List.filter]

theorem LinkState.tests_set_some (l : LinkState) (c : Corner) (t : Byte) (h : l.inflight.get c = none) :
    (Corner.list.filter fun d => ((l.inflight.set c (some t)).get d).isSome).length = l.tests + 1 := by
  rcases hl : l.inflight with ⟨a, b, d, e⟩
  cases c <;> cases a <;> cases b <;> cases d <;> cases e <;>
    simp_all [LinkState.tests, Corner.list, PerCorner.get, PerCorner.set, List.filter]

/-- Answering a CoilTest keeps the sum of replies and reservations (R171). -/
theorem answerTest_sum (c : Corner) (status : Status) (payload : List Byte) (s : State)
    (h : s.link.reservations = s.link.tests) :
    (answerTest c status payload s).link.outstanding = s.link.outstanding := by
  rcases answerTest_cases c status payload s with ⟨_, h'⟩ | ⟨tag, ht, h'⟩
  · rw [h']
  · have := LinkState.tests_set_none s.link c (by simp [ht])
    rw [h']; simp [LinkState.outstanding]; omega

/-- Answering a CoilTest keeps the link sound. -/
theorem answerTest_sound (c : Corner) (status : Status) (payload : List Byte) (s : State) (h : s.link.Sound) :
    (answerTest c status payload s).link.Sound := by
  have hsum := answerTest_sum c status payload s h.2.2.2.2.1
  rcases answerTest_cases c status payload s with ⟨_, h'⟩ | ⟨tag, ht, h'⟩
  · rw [h']; exact h
  · obtain ⟨h1, h2, h3, h4, h5, h6⟩ := h
    have := LinkState.tests_set_none s.link c (by simp [ht])
    have h5' : s.link.reservations = s.link.tests := h5
    simp only [LinkState.outstanding, h', List.length_append, List.length_singleton] at hsum
    rw [h']
    refine ⟨h1, by simp; omega, h3, h4, by simp; omega, ?_⟩
    intro hin
    have := h6 hin
    simp; omega

end Sys2Proof.Machine
end

