-- ==== Sys2Proof/Laws/Regulator.lean ====
section
/-! SUPPORT. The coil regulator: bounds of the arithmetic, what a target or an expiry does to it, and that each operation keeps
it sound. -/

namespace Sys2Proof.Machine

theorem clamp_eq (lo hi x : Int) (h : lo ≤ hi) : clamp lo hi x = max lo (min hi x) := by
  unfold clamp; split <;> [skip; split] <;> omega

/-- The feed-forward duty is at most 1023. -/
theorem feedForward_le (target rEst vbat : Nat) : feedForward target rEst vbat ≤ 1023 := Nat.min_le_left _ _

/-- A computed duty is at most 1023. -/
theorem Regulator.dutyFor_le (r : Regulator) (target vbat : Nat) : r.dutyFor target vbat ≤ 1023 := by
  unfold Regulator.dutyFor; rw [clamp_eq _ _ _ (by decide)]; omega

theorem Regulator.dutyOrZero_le (r : Regulator) (vbat : Nat) : r.dutyOrZero vbat ≤ 1023 := by
  unfold Regulator.dutyOrZero; split
  · omega
  · exact r.dutyFor_le _ _

/-- A moved estimate lies in 1500..12,000. -/
theorem moveEstimate_bounds (rEst rMeas : Nat) : 1500 ≤ moveEstimate rEst rMeas ∧ moveEstimate rEst rMeas ≤ 12000 := by
  unfold moveEstimate; rw [clamp_eq _ _ _ (by decide)]; omega

/-- A trim after an expiry lies in -256..255 if it did before. -/
theorem Regulator.trimAfter_bounds (r : Regulator) (target im ki : Nat) (h : -256 ≤ r.trim ∧ r.trim ≤ 255) :
    -256 ≤ r.trimAfter target im ki ∧ r.trimAfter target im ki ≤ 255 := by
  unfold Regulator.trimAfter
  simp only
  split
  · exact h
  · rw [clamp_eq _ _ _ (by decide)]; omega

/-- Everything the kick-or-quench test does. -/
theorem kickOrQuench_cases (g : Regulation) (old new : Nat) (r : Regulator) :
    (old + g.kickStep ≤ new ∧ 0 < g.kickStep ∧ 0 < g.kickTime ∧
      kickOrQuench g old new r = { r with target := some new, mode := .kick 0, duty := 1023 }) ∨
    (new + g.quenchStep ≤ old ∧ 0 < g.quenchStep ∧ 0 < g.quenchTime ∧
      kickOrQuench g old new r = { r with target := some new, mode := .quench 0, duty := 0, openCount := 0 }) ∨
    kickOrQuench g old new r = { r with target := some new, mode := .regulating } := by
  unfold kickOrQuench
  split
  · rename_i h; exact .inl ⟨by omega, h.1, h.2.1, rfl⟩
  · split
    · rename_i h; exact .inr (.inl ⟨by omega, h.1, h.2.1, rfl⟩)
    · exact .inr (.inr rfl)

/-- The kick-or-quench test keeps a regulator sound. -/
theorem kickOrQuench_sound (g : Regulation) (old new : Nat) (r : Regulator)
    (h : r.duty ≤ 1023 ∧ -256 ≤ r.trim ∧ r.trim ≤ 255 ∧ 1500 ≤ r.rEst ∧ r.rEst ≤ 12000 ∧ r.openCount ≤ 2 ∧
      r.lastIm ≤ 4095) : (kickOrQuench g old new r).Sound := by
  obtain ⟨h1, h2, h3, h4, h5, h6, h7⟩ := h
  rcases kickOrQuench_cases g old new r with ⟨_, _, _, h⟩ | ⟨_, _, _, h⟩ | h <;> rw [h] <;>
    simp [Regulator.Sound, Mode.fixedDuty] <;> omega

theorem applyInKick_sound (g : Regulation) (new : Nat) (r : Regulator) (h : r.Sound) : (applyInKick g new r).Sound := by
  unfold applyInKick; split
  · exact h
  · exact kickOrQuench_sound g _ new r ⟨h.1, h.2.1, h.2.2.1, h.2.2.2.1, h.2.2.2.2.1, h.2.2.2.2.2.1, h.2.2.2.2.2.2.1⟩

theorem applyInQuench_sound (g : Regulation) (new : Nat) (r : Regulator) (h : r.Sound) :
    (applyInQuench g new r).Sound := by
  unfold applyInQuench; split
  · exact h
  · exact kickOrQuench_sound g _ new r ⟨h.1, h.2.1, h.2.2.1, h.2.2.2.1, h.2.2.2.2.1, h.2.2.2.2.2.1, h.2.2.2.2.2.2.1⟩

theorem placePending_sound (at' : Option Nat) (new : Nat) (r : Regulator) (h : r.Sound) :
    (placePending at' new r).Sound := by
  unfold placePending; split <;> exact h

/-- A handed target keeps a regulator sound. -/
theorem takeTarget_sound (g : Regulation) (now new : Nat) (r : Regulator) (h : r.Sound) :
    (takeTarget g now new r).Sound := by
  have hk := kickOrQuench_sound g r.targetNow new r
    ⟨h.1, h.2.1, h.2.2.1, h.2.2.2.1, h.2.2.2.2.1, h.2.2.2.2.2.1, h.2.2.2.2.2.2.1⟩
  unfold takeTarget
  split <;> (try split) <;>
    first
    | exact h
    | exact hk
    | exact placePending_sound _ _ _ h
    | exact applyInKick_sound _ _ _ h
    | exact applyInQuench_sound _ _ _ h

/-- Faulting a regulator keeps it sound. -/
theorem Regulator.makeFaulted_sound (k : FaultKind) (r : Regulator) (h : r.Sound) : (r.makeFaulted k).Sound := by
  obtain ⟨h1, h2, h3, h4, h5, h6, h7, h8⟩ := h
  unfold Regulator.makeFaulted Regulator.takeSlot
  split <;> simp [Regulator.Sound, Mode.fixedDuty] <;> omega

/-- A regulation period with its timer running is judged with the Im stored and the next period begun. -/
theorem periodExpiry_running (c : Corner) (im : Count) (s : State) (T : Nat) (h : (s.reg.get c).period = some T) :
    periodExpiry c im s = judgeExpiry c im.toNat s.vbatRead { s with
      now := max s.now T, choices := if s.supply.vbat.isNone then s.choices + 1 else s.choices,
      reg := s.reg.set c { s.reg.get c with period := some (T + 500), lastIm := im.toNat } } := by
  simp only [periodExpiry, h]
  cases hv : s.supply.vbat <;>
    simp [State.reachTime, State.vbatRead, hv, State.spend, State.setReg, periodTime]

/-- An expiry that finds no fault goes on by mode with its open-count. -/
theorem judgeExpiry_passed (c : Corner) (im vbat : Nat) (s : State) (h1 : (s.reg.get c).mode ≠ .faulted → im ≤ 2500)
    (h2 : (s.reg.get c).openAfter im < 3) :
    judgeExpiry c im vbat s = expiryByMode c im vbat { s with
      reg := s.reg.set c { s.reg.get c with openCount := (s.reg.get c).openAfter im } } := by
  unfold judgeExpiry
  simp only
  rw [if_neg (by intro h; have := h1 h.1; omega), if_neg (by omega)]; rfl

/-- Everything a fault does before a CoilTest is answered: the regulator is Faulted, and one or two records are queued. -/
theorem raiseFault_eq (c : Corner) (k : FaultKind) (detail : Byte) (value : Nat) (s : State) :
    raiseFault c k detail value s = { s with
      reg := s.reg.set c { (s.reg.get c).makeFaulted k with
        latched := (s.reg.get c).latched || (s.reg.get c).recovery.isSome },
      link := match (s.reg.get c).recovery with
        | none => s.link.record (event k.event (some c) detail 0 value)
        | some t => (s.link.record (event k.event (some c) detail 0 value)).record
            (event .coilLatched (some c) (faultCode (some k)) 0 (msSinceRecovery s.now t)) } := by
  unfold raiseFault judgeLatch Regulator.makeFaulted Regulator.takeSlot
  simp only [queueEvent, State.setReg, State.setLink, PerCorner.get_set_self, PerCorner.set_set]
  rcases hs : s.reg.get c with ⟨_, _, _, slot, _, _, _, _, _, _, _, _, _, _, recovery⟩
  cases slot <;> cases recovery <;> simp

end Sys2Proof.Machine
end

