-- ==== Sys2Proof/Laws/Frames.lean ====
section
/-! SUPPORT. What the shared operations of the arbiter, the guard, the runner, the queue and the answers can change: each
frame lemma names every field that can differ, and says how far. -/

namespace Sys2Proof.Machine

/-- The regulator an operation leaves: the old one, or the old one with a target taken. -/
def Handed (g : Regulation) (now : Nat) (r r' : Regulator) : Prop := r' = r ∨ ∃ i, r' = takeTarget g now i r

theorem Handed.sound {g : Regulation} {now : Nat} {r r' : Regulator} (h : Handed g now r r') (hr : r.Sound) : r'.Sound := by
  rcases h with rfl | ⟨i, rfl⟩
  · exact hr
  · exact takeTarget_sound g now i r hr

/-- Records one after another on a link. -/
def LinkState.recordAll (es : List Event) (l : LinkState) : LinkState := es.foldl (fun l e => l.record e) l

@[simp] theorem LinkState.recordAll_nil (l : LinkState) : l.recordAll [] = l := rfl

@[simp] theorem LinkState.recordAll_append (es fs : List Event) (l : LinkState) :
    l.recordAll (es ++ fs) = (l.recordAll es).recordAll fs := by simp [LinkState.recordAll]

theorem LinkState.recordAll_one (e : Event) (l : LinkState) : l.recordAll [e] = l.record e := rfl

/-- Records change the events, the overflow mark and ATN only. -/
theorem LinkState.recordAll_frame (es : List Event) (l : LinkState) :
    ∃ ev ov at', l.recordAll es = { l with events := ev, overflow := ov, atn := at' } := by
  induction es generalizing l with
  | nil => exact ⟨l.events, l.overflow, l.atn, rfl⟩
  | cons e es ih =>
    obtain ⟨_, _, _, h⟩ := l.record_frame e
    obtain ⟨ev, ov, at', h'⟩ := ih (l.record e)
    refine ⟨ev, ov, at', ?_⟩
    show (l.record e).recordAll es = _
    rw [h', h]

/-- Records keep the link sound. -/
theorem LinkState.recordAll_sound (es : List Event) (l : LinkState) (h : l.Sound) : (l.recordAll es).Sound := by
  induction es generalizing l with
  | nil => exact h
  | cons e es ih => exact ih _ (l.record_sound e h)

/-! ### Arbiter, mapper, regulator -/

/-- A resolved demand handed to the mapper changes the mapper and the regulator of its corner. -/
theorem handDemand_frame (c : Corner) (d : Nat) (s : State) : ∃ m r, Handed s.regulation s.now (s.reg.get c) r ∧
    handDemand c d s = { s with mapper := s.mapper.set c m, reg := s.reg.set c r } := by
  unfold handDemand
  simp only
  split
  · exact ⟨s.mapper.get c, _, .inl rfl, by simp [*]⟩
  · split
    · exact ⟨s.mapper.get c, _, .inl rfl, by simp [*]⟩
    · exact ⟨_, _, .inr ⟨_, rfl⟩, rfl⟩

/-- A resolving arbiter changes itself, its mapper and its regulator; an Active one holds its winner's level and value. -/
theorem resolve_frame (c : Corner) (s : State) : ∃ m r, Handed s.regulation s.now (s.reg.get c) r ∧
    resolve c s = { s with
      arbiter := s.arbiter.set c (if (s.arbiter.get c).active then
          { s.arbiter.get c with level := some (s.arbiter.get c).winner.1, resolved := (s.arbiter.get c).winner.2 }
        else s.arbiter.get c),
      mapper := s.mapper.set c m, reg := s.reg.set c r } := by
  unfold resolve
  simp only
  split
  · split
    · split
      · exact ⟨s.mapper.get c, _, .inl rfl, by simp [State.setArbiter, *]⟩
      · obtain ⟨m, r, h, h'⟩ := handDemand_frame c ‹_› (s.setArbiter c { s.arbiter.get c with
          level := some (s.arbiter.get c).winner.1, resolved := (s.arbiter.get c).winner.2 })
        exact ⟨m, r, h, h'⟩
    · exact ⟨s.mapper.get c, _, .inl rfl, by simp [State.setArbiter, *]⟩
  · exact ⟨s.mapper.get c, _, .inl rfl, by simp [*]⟩

/-- An arbiter handed something resolves to: itself when Idle, else with its winner's level and value. -/
def Arbiter.settled (a : Arbiter) : Arbiter :=
  if a.active then { a with level := some a.winner.1, resolved := a.winner.2 } else a

/-- What a resolution hands on at its own corner. -/
theorem resolve_outputs (c : Corner) (s : State) : (resolve c s).outputs c =
    if (s.arbiter.get c).active then
      handOn s.regulation s.now (s.arbiter.get c).resolved (s.arbiter.get c).winner.2 (s.outputs c)
    else s.outputs c := by
  unfold resolve
  simp only
  split
  · cases hw : (s.arbiter.get c).winner.2 with
    | none => simp [handOn, State.outputs]
    | some d =>
      cases hc : (s.mapper.get c).curve with
      | none => by_cases hr : (s.arbiter.get c).resolved = some d <;> simp [handOn, State.outputs, handDemand, hc, hr]
      | some curve =>
        by_cases hr : (s.arbiter.get c).resolved = some d
        · simp [handOn, State.outputs, hc, hr]
        · by_cases hl : (s.mapper.get c).last = some (mapCurrent curve d) <;>
            simp [handOn, State.outputs, handDemand, handTarget, hc, hr, hl]
  · rfl

/-- A resolution hands nothing on at another corner. -/
theorem resolve_outputs_ne {c d : Corner} (s : State) (h : d ≠ c) : (resolve c s).outputs d = s.outputs d := by
  obtain ⟨m, r, -, e⟩ := resolve_frame c s
  simp [e, State.outputs, PerCorner.get_set, h]

/-- An arbiter replaced and resolved. -/
theorem resolve_set_frame (c : Corner) (a : Arbiter) (s : State) : ∃ m r, Handed s.regulation s.now (s.reg.get c) r ∧
    resolve c (s.setArbiter c a) = { s with
      arbiter := s.arbiter.set c a.settled, mapper := s.mapper.set c m, reg := s.reg.set c r } := by
  obtain ⟨m, r, h, h'⟩ := resolve_frame c (s.setArbiter c a)
  refine ⟨m, r, h, h'.trans ?_⟩
  simp [Arbiter.settled, State.setArbiter]

/-- Everything the runner's hand-over does. -/
theorem handPreview_frame (c : Corner) (f : Option StepForm) (s : State) :
    ∃ m r, Handed s.regulation s.now (s.reg.get c) r ∧
      handPreview c f s = { s with
        arbiter := s.arbiter.set c ({ s.arbiter.get c with preview := f } : Arbiter).settled,
        mapper := s.mapper.set c m, reg := s.reg.set c r } := resolve_set_frame c _ s

/-- Everything the guard's hand-over does. -/
theorem handGuard_frame (c : Corner) (f : Option Nat) (s : State) :
    ∃ m r, Handed s.regulation s.now (s.reg.get c) r ∧
      handGuard c f s = { s with
        arbiter := s.arbiter.set c ({ s.arbiter.get c with guard := f } : Arbiter).settled,
        mapper := s.mapper.set c m, reg := s.reg.set c r } := resolve_set_frame c _ s

/-- Everything a stored demand does. -/
theorem storeDemand_frame (c : Corner) (d : Nat) (s : State) :
    ∃ m r, Handed s.regulation s.now (s.reg.get c) r ∧
      storeDemand c d s = { s with
        arbiter := s.arbiter.set c ({ s.arbiter.get c with stored := some d } : Arbiter).settled,
        mapper := s.mapper.set c m, reg := s.reg.set c r } := resolve_set_frame c _ s

/-- Everything the failsafe form's hand-over does; an Idle arbiter is left alone. -/
theorem handFailsafe_frame (c : Corner) (f : Option Nat) (s : State) :
    ∃ m r, Handed s.regulation s.now (s.reg.get c) r ∧
      handFailsafe c f s = { s with
        arbiter := s.arbiter.set c (if (s.arbiter.get c).active then
          ({ s.arbiter.get c with failsafe := f } : Arbiter).settled else s.arbiter.get c),
        mapper := s.mapper.set c m, reg := s.reg.set c r } := by
  unfold handFailsafe
  split
  · exact resolve_set_frame c _ s
  · exact ⟨s.mapper.get c, _, .inl rfl, by simp [*]⟩

/-! ### The guard -/

/-- Everything a release does: an Engaged guard becomes Released and its form inactive, a Released one is left alone. -/
theorem releaseGuard_cases (c : Corner) (s : State) :
    ((s.guard.get c).engaged = none ∧ releaseGuard c s = s) ∨
    ∃ d m r, (s.guard.get c).engaged = some d ∧ Handed s.regulation s.now (s.reg.get c) r ∧
      releaseGuard c s = { s with
        guard := s.guard.set c { s.guard.get c with engaged := none, timer := none },
        arbiter := s.arbiter.set c ({ s.arbiter.get c with guard := none } : Arbiter).settled,
        mapper := s.mapper.set c m, reg := s.reg.set c r } := by
  unfold releaseGuard
  split
  · exact .inl ⟨‹_›, rfl⟩
  · obtain ⟨m, r, h, h'⟩ := handGuard_frame c none
      (s.setGuard c { s.guard.get c with engaged := none, timer := none })
    exact .inr ⟨_, m, r, ‹_›, h, h'⟩

/-- Everything a sample at the guard can do: nothing, or its corner's guard, arbiter, mapper and regulator change and records
are queued. -/
theorem guardSample_frame (c : Corner) (x v : Int) (s : State) :
    ∃ g a m r es, Handed s.regulation s.now (s.reg.get c) r ∧ guardSample c x v s = { s with
      guard := s.guard.set c g, arbiter := s.arbiter.set c a, mapper := s.mapper.set c m, reg := s.reg.set c r,
      link := s.link.recordAll es } := by
  have same : ∃ g a m r es, Handed s.regulation s.now (s.reg.get c) r ∧ s = { s with
      guard := s.guard.set c g, arbiter := s.arbiter.set c a, mapper := s.mapper.set c m, reg := s.reg.set c r,
      link := s.link.recordAll es } := ⟨s.guard.get c, s.arbiter.get c, s.mapper.get c, s.reg.get c, [], .inl rfl, by simp⟩
  unfold guardSample
  split
  · simp only
    split
    · unfold engageGuard
      simp only
      generalize ({ s.guard.get c with
        engaged := some ‹Dir›,
        timer := if (s.guard.get c).guardHold ≠ 0 then some (s.now + 1000 * (s.guard.get c).guardHold)
          else (s.guard.get c).timer } : Guard) = g
      split
      · obtain ⟨m, r, h, h'⟩ := handGuard_frame c (some (s.guard.get c).guardDemand) (s.setGuard c g)
        rw [h']
        exact ⟨g, _, m, r, [_], h, rfl⟩
      · split
        · exact ⟨g, s.arbiter.get c, s.mapper.get c, s.reg.get c, [], .inl rfl, by simp [State.setGuard]⟩
        · exact ⟨g, s.arbiter.get c, s.mapper.get c, s.reg.get c, [_], .inl rfl,
            by simp only [PerCorner.set_get]; rfl⟩
    · split
      · rcases releaseGuard_cases c s with ⟨_, h⟩ | ⟨d, m, r, _, h, h'⟩
        · rw [h]; exact same
        · exact ⟨_, _, m, r, [], h, by simpa using h'⟩
      · exact same
  · exact same

/-! ### Runner and queue -/

/-- Everything emptying a context does: a Running one goes and the preview form becomes inactive. -/
theorem emptyContext_cases (c : Corner) (s : State) :
    (s.context.get c = none ∧ emptyContext c s = s) ∨
    ∃ x m r, s.context.get c = some x ∧ Handed s.regulation s.now (s.reg.get c) r ∧
      emptyContext c s = { s with
        context := s.context.set c none,
        arbiter := s.arbiter.set c ({ s.arbiter.get c with preview := none } : Arbiter).settled,
        mapper := s.mapper.set c m, reg := s.reg.set c r } := by
  unfold emptyContext
  split
  · exact .inl ⟨‹_›, rfl⟩
  · obtain ⟨m, r, h, h'⟩ := handPreview_frame c none (s.setContext c none)
    exact .inr ⟨_, m, r, ‹_›, h, h'⟩

/-- What a runner can change: its context, and by hand-overs its arbiter, mapper and regulator; and records. -/
def RunnerFrame (c : Corner) (s t : State) : Prop :=
  ∃ x a m r es, ((s.reg.get c).Sound → r.Sound) ∧ a.active = (s.arbiter.get c).active ∧ t = { s with
    context := s.context.set c x, arbiter := s.arbiter.set c a, mapper := s.mapper.set c m, reg := s.reg.set c r,
    link := s.link.recordAll es }

theorem RunnerFrame.refl (c : Corner) (s : State) : RunnerFrame c s s :=
  ⟨s.context.get c, s.arbiter.get c, s.mapper.get c, s.reg.get c, [], id, rfl, by simp⟩

theorem RunnerFrame.trans {c : Corner} {s t u : State} (h : RunnerFrame c s t) (h' : RunnerFrame c t u) :
    RunnerFrame c s u := by
  obtain ⟨x, a, m, r, es, hr, ha, rfl⟩ := h
  obtain ⟨x', a', m', r', es', hr', ha', rfl⟩ := h'
  refine ⟨x', a', m', r', es ++ es', ?_, by simpa [ha] using ha', by simp⟩
  intro h; exact hr' (by simpa using hr h)

theorem Arbiter.settled_active (a : Arbiter) : a.settled.active = a.active := by
  unfold Arbiter.settled; split <;> simp_all

theorem handPreview_runner (c : Corner) (f : Option StepForm) (x : Option Context) (s : State) :
    RunnerFrame c s (handPreview c f (s.setContext c x)) := by
  obtain ⟨m, r, h, h'⟩ := handPreview_frame c f (s.setContext c x)
  exact ⟨x, ({ s.arbiter.get c with preview := f } : Arbiter).settled, m, r, [], h.sound, Arbiter.settled_active _, h'⟩

theorem queueEvent_runner (c : Corner) (e : Event) (s : State) : RunnerFrame c s (queueEvent e s) :=
  ⟨s.context.get c, s.arbiter.get c, s.mapper.get c, s.reg.get c, [e], id, rfl, by simp; rfl⟩

/-- An offer to the runner stays within the runner's frame. -/
theorem offerToRunner_frame (c : Corner) (e : Entry) (s : State) : RunnerFrame c s (offerToRunner c e s) := by
  have start : RunnerFrame c s (startEntry c e s) := by
    unfold startEntry
    split
    · exact .refl c s
    · exact handPreview_runner c _ _ s
  unfold offerToRunner
  split
  · exact start
  · split
    · exact start
    · exact queueEvent_runner c _ s

/-- The runner's advance notice stays within its frame. -/
theorem runnerNotice_frame (c : Corner) (s : State) : RunnerFrame c s (runnerNotice c s) := by
  unfold runnerNotice
  split
  · exact .refl c s
  · split
    · unfold emptyContext
      split
      · exact .refl c s
      · exact handPreview_runner c none none s
    · split
      · exact .refl c s
      · exact handPreview_runner c _ _ s

/-- A maturity check takes entries off its queue and stays within the runner's frame. -/
theorem maturityCheck_frame (c : Corner) (s : State) :
    RunnerFrame c (s.setQueue c ((s.queue.get c).dropWhile (mature s))) (maturityCheck c s) := by
  unfold maturityCheck
  generalize maturing c s = l
  generalize s.setQueue c _ = t
  induction l generalizing t with
  | nil => exact .refl c t
  | cons e l ih => exact (offerToRunner_frame c e t).trans (ih _)

/-- An empty queue matures nothing. -/
theorem maturityCheck_empty (c : Corner) (s : State) (h : s.queue.get c = []) : maturityCheck c s = s := by
  have : s.queue.set c [] = s.queue := by rw [← h]; simp
  simp [maturityCheck, maturing, h, State.setQueue, this]

/-! ### Free orders -/

/-- A free order is a rearrangement. -/
theorem freeOrder_perm {α : Type} (n : Nat) (l : List α) : (freeOrder l.length n l).Perm l := by
  generalize hk : l.length = k
  induction k generalizing n l with
  | zero => cases l <;> simp_all [freeOrder]
  | succ k ih =>
    cases l with
    | nil => simp at hk
    | cons a as =>
      simp only [freeOrder]
      have hi : Config.choice n % (as.length + 1) < (a :: as).length := by
        simpa using Nat.mod_lt _ (Nat.succ_pos _)
      generalize Config.choice n % (as.length + 1) = i at hi
      have h1 := ih (n + 1) ((a :: as).eraseIdx i) (by rw [List.length_eraseIdx_of_lt hi]; simp at hk ⊢; omega)
      have h2 : ((a :: as).getD i a) = (a :: as)[i] := by
        rw [List.getD_eq_getElem _ _ hi]
      rw [h2]
      exact (h1.cons _).trans (List.getElem_cons_eraseIdx_perm hi)

/-- Each element acts once, in some order. -/
theorem forEachFree_order {α : Type} (l : List α) (f : α → State → State) (s : State) :
    ∃ order : List α, order.Perm l ∧ forEachFree l f s = order.foldl (fun t a => f a t) (s.spend l.length) :=
  ⟨_, freeOrder_perm _ l, rfl⟩

/-- Two actions act in one order or the other. -/
theorem inEitherOrder_cases (f g : State → State) (s : State) :
    inEitherOrder f g s = g (f (s.spend 1)) ∨ inEitherOrder f g s = f (g (s.spend 1)) := by
  unfold inEitherOrder; split
  · exact .inl rfl
  · exact .inr rfl

/-- What each action keeps, all of them in a free order keep. -/
theorem forEachFree_keeps {α : Type} (P : State → Prop) (l : List α) (f : α → State → State)
    (hf : ∀ a ∈ l, ∀ s, P s → P (f a s)) (hs : ∀ s n, P s → P (State.spend s n)) (s : State) (h : P s) :
    P (forEachFree l f s) := by
  obtain ⟨order, hp, he⟩ := forEachFree_order l f s
  rw [he]
  have hmem : ∀ a ∈ order, a ∈ l := fun a ha => hp.mem_iff.1 ha
  have h0 := hs s l.length h
  generalize s.spend l.length = t at h0
  clear he hp
  induction order generalizing t with
  | nil => exact h0
  | cons a as ih =>
    exact ih (fun b hb => hmem b (List.mem_cons_of_mem _ hb)) _ (hf a (hmem a (List.mem_cons_self ..)) t h0)

/-- A free order depends on positions only. -/
theorem freeOrder_map {α β : Type} (f : α → β) (k n : Nat) (l : List α) :
    freeOrder k n (l.map f) = (freeOrder k n l).map f := by
  induction k generalizing n l with
  | zero => rfl
  | succ k ih =>
    cases l with
    | nil => rfl
    | cons a as =>
      have h : Config.choice n % (as.length + 1) < (a :: as).length := by
        simpa using Nat.mod_lt _ (Nat.succ_pos _)
      have h' : Config.choice n % (as.length + 1) < (f a :: as.map f).length := by simpa using h
      have e : (f a :: as.map f).eraseIdx (Config.choice n % (as.length + 1)) =
          ((a :: as).eraseIdx (Config.choice n % (as.length + 1))).map f := by
        rw [← List.map_cons (f := f), List.eraseIdx_map]
      simp only [List.map_cons, freeOrder, List.length_map]
      rw [e, ih, List.getD_eq_getElem _ _ h, List.getD_eq_getElem _ _ h']
      congr 1
      simp only [← List.map_cons, List.getElem_map]

/-! ### The vehicle speed and the preview flag -/

/-- Everything the hand-over of a recomputed vehicle speed does. -/
theorem handSpeed_handed (before : Nat) (record : Option Event) (s : State) :
    SpeedHanded before record s (handSpeed before record s) := by
  constructor
  · intro h
    cases record <;> simp [handSpeed, h, queueEvent, State.setLink]
  · intro h
    let act : Corner ⊕ Event → State → State := Sum.elim maturityCheck queueEvent
    let acts : List (Corner ⊕ Event) := record.toList.map Sum.inr ++ Corner.list.map Sum.inl
    have e : (record.map queueEvent).toList ++ allChecks = acts.map act := by cases record <;> rfl
    refine ⟨s.choices + acts.length, freeOrder acts.length s.choices acts, ?_, ?_⟩
    · exact (freeOrder_perm s.choices acts).trans List.perm_append_comm
    · simp only [handSpeed, h, if_false, forEachFree, State.inFreeOrder, e, List.length_map, freeOrder_map,
        List.foldl_map]
      congr 1
      funext w x
      cases x <;> rfl

/-- What the flag's turning false leaves at one corner: arbiter, mapper and regulator of a corner without a context are kept;
at one with a context the preview form goes and the arbiter resolves. -/
def Emptied (s : State) (c : Corner) (a : Arbiter) (o : Mapper × Regulator) : Prop :=
  (s.context.get c = none → a = s.arbiter.get c ∧ o = s.outputs c) ∧
  (∀ b, s.context.get c ≠ none → b = { s.arbiter.get c with preview := none } →
    a = (if b.active then { b with level := some b.winner.1, resolved := b.winner.2 } else b) ∧
    o = if b.active then handOn s.regulation s.now b.resolved b.winner.2 (s.outputs c) else s.outputs c)

/-- Everything emptying a context does, its hand-over included. -/
theorem emptyContext_eq (c : Corner) (s : State) : ∃ a m r, Emptied s c a (m, r) ∧ emptyContext c s = { s with
    context := s.context.set c none, arbiter := s.arbiter.set c a, mapper := s.mapper.set c m, reg := s.reg.set c r } := by
  cases hx : s.context.get c with
  | none =>
    refine ⟨s.arbiter.get c, s.mapper.get c, s.reg.get c, ⟨fun _ => ⟨rfl, rfl⟩, fun _ h => absurd hx h⟩, ?_⟩
    have : s.context.set c none = s.context := by rw [← hx]; simp
    simp [emptyContext, hx, this]
  | some x =>
    have e : emptyContext c s = resolve c ((s.setContext c none).setArbiter c { s.arbiter.get c with preview := none }) := by
      simp [emptyContext, hx, handPreview]
    have o := resolve_outputs c ((s.setContext c none).setArbiter c { s.arbiter.get c with preview := none })
    obtain ⟨m, r, -, h⟩ := resolve_set_frame c { s.arbiter.get c with preview := none } (s.setContext c none)
    rw [h] at o
    refine ⟨_, m, r, ⟨fun h => absurd (hx.symm.trans h) (by simp), ?_⟩, e.trans h⟩
    rintro b - rfl
    exact ⟨rfl, by simpa [State.outputs] using o⟩

/-- Emptying every context leaves each corner as emptying its own does. -/
theorem emptyAll_eq (s : State) : ∃ (a : PerCorner Arbiter) (m : PerCorner Mapper) (r : PerCorner Regulator),
    (∀ k, Emptied s k (a.get k) (m.get k, r.get k)) ∧
    Corner.list.foldl (fun t c => emptyContext c t) s = { s with
      context := PerCorner.all none, arbiter := a, mapper := m, reg := r } := by
  obtain ⟨a1, m1, r1, h1, e1⟩ := emptyContext_eq .fl s
  obtain ⟨a2, m2, r2, h2, e2⟩ := emptyContext_eq .fr (emptyContext .fl s)
  obtain ⟨a3, m3, r3, h3, e3⟩ := emptyContext_eq .rl (emptyContext .fr (emptyContext .fl s))
  obtain ⟨a4, m4, r4, h4, e4⟩ := emptyContext_eq .rr (emptyContext .rl (emptyContext .fr (emptyContext .fl s)))
  rw [e1] at h2 e2
  rw [e1, e2] at h3 e3
  rw [e1, e2, e3] at h4 e4
  refine ⟨⟨a1, a2, a3, a4⟩, ⟨m1, m2, m3, m4⟩, ⟨r1, r2, r3, r4⟩, ?_, ?_⟩
  · intro k; cases k
    exacts [h1, h2, h3, h4]
  · show emptyContext .rr (emptyContext .rl (emptyContext .fr (emptyContext .fl s))) = _
    rw [e1, e2, e3, e4]
    rfl

/-- Everything the preview-active flag's turning false does to the blocks. -/
theorem flushPreview_flushed (s : State) : PreviewFlushed s (flushPreview s) := by
  obtain ⟨a, m, r, h, e⟩ := emptyAll_eq { s with queue := PerCorner.all [], window := ⟨none, none⟩ }
  unfold flushPreview
  rw [e]
  refine ⟨fun k => ?_, fun f => ?_, fun k => (h k).1, fun k => (h k).2, rfl⟩
  · cases k <;> exact ⟨rfl, rfl⟩
  · cases f <;> rfl

/-- A hand-over of the vehicle speed leaves the clock, the distance unit, the part state and the preview settings alone. -/
theorem SpeedHanded.frame {before : Nat} {record : Option Event} {u v : State} (h : SpeedHanded before record u v) :
    v.now = u.now ∧ v.dist = u.dist ∧ v.control = u.control ∧ v.preview = u.preview := by
  by_cases e : u.dist.speed = before
  · rw [h.1 e]; exact ⟨rfl, rfl, rfl, rfl⟩
  · obtain ⟨n, order, -, rfl⟩ := h.2 e
    generalize hw : ({ u with choices := n } : State) = w
    have h0 : w.now = u.now ∧ w.dist = u.dist ∧ w.control = u.control ∧ w.preview = u.preview := by
      subst hw; exact ⟨rfl, rfl, rfl, rfl⟩
    clear hw h
    induction order generalizing w with
    | nil => exact h0
    | cons x xs ih =>
      cases x with
      | inl c =>
        obtain ⟨_, _, _, _, _, _, _, e⟩ := maturityCheck_frame c w
        exact ih (maturityCheck c w) (by rw [e]; exact h0)
      | inr _ => exact ih _ h0

/-- Everything an evaluation of DistanceLost does (R16, R52). -/
theorem evalDistanceLost_cases (s w : State) (lost : Bool)
    (hl : lost = (!s.dist.lost && decide (s.dist.wheel.fl.speed = 0) && decide (s.dist.wheel.fr.speed = 0) &&
      decide (2000 ≤ s.dist.referenceSpeed)))
    (hw : w = { s with
      dist := { s.dist with lost := true }, preview := { s.preview with active := false },
      link := s.link.record (event .distanceLost none 0 0 s.dist.referenceSpeed) }) :
    (lost = false → evalDistanceLost s = s) ∧
    (lost = true → s.preview.active = false → evalDistanceLost s = w) ∧
    (lost = true → s.preview.active = true → PreviewFlushed w (evalDistanceLost s)) := by
  have judged (h : lost = true) : evalDistanceLost s = if s.preview.active then flushPreview w else w := by
    have : evalDistanceLost s = judgePreview (queueEvent (event .distanceLost none 0 0 s.dist.referenceSpeed)
        (s.setDist { s.dist with lost := true })) := by
      unfold evalDistanceLost; rw [if_pos]; simp_all
    rw [this]
    subst hw
    simp [judgePreview, previewCondition, State.setDist, queueEvent, State.setLink, State.setPreview]
  refine ⟨fun h => ?_, fun h a => by simp [judged h, a], fun h a => ?_⟩
  · unfold evalDistanceLost; rw [if_neg]; simp_all
  · rw [judged h, a]; exact flushPreview_flushed w

end Sys2Proof.Machine
end

