-- ==== Sys2Proof/Laws/Requests.lean ====
section
/-! SUPPORT. How a request reaches its meaning, and what the list of field checks says. -/

namespace Sys2Proof.Machine

/-- A request command is the request's arrival at the processor. -/
theorem exec_command (tag : Byte) (r : Request) (s : State) : exec (r.command tag) s = .next (arrive tag r s) := by
  cases r <;> rfl

/-- A request that is judged at once goes straight to the checks of length, state and values. -/
theorem arrive_listening (tag : Byte) (r : Request) (s : State) (h : s.Listening) :
    arrive tag r s = judgeRequest tag r s := by
  simp only [arrive, h.1, Bool.false_eq_true, if_false]; rw [if_pos h.2]

/-- A request that passes length and state goes to its owning block. -/
theorem judgeRequest_passed (tag : Byte) (r : Request) (s : State) (hs : stateTest r s.control.part = none)
    (hl : r.lengthAllowed = true) : judgeRequest tag r s = runRequest tag r s := by
  simp [judgeRequest, hs, hl]

/-- The meaning of a request that is judged at once and passes length and state. -/
theorem exec_command_passed (tag : Byte) (r : Request) (s : State) (h : s.Listening)
    (hs : stateTest r s.control.part = none) (hl : r.lengthAllowed = true) :
    exec (r.command tag) s = .next (runRequest tag r s) := by
  rw [exec_command, arrive_listening _ _ _ h, judgeRequest_passed _ _ _ hs hl]

/-- A reply changes the reply queue only. -/
theorem reply_eq (tag kind : Byte) (status : Status) (payload : List Byte) (s : State) :
    reply tag kind status payload s =
      { s with link := { s.link with
        replies := s.link.replies ++ [⟨kind + 0x80, tag, status, summary s, payload⟩] } } := rfl

/-- No field is offending exactly when every check holds. -/
theorem firstBad_eq_none (l : List Bool) : firstBad l = none ↔ ∀ b ∈ l, b = true := by
  induction l with
  | nil => simp [firstBad]
  | cons b l ih => cases b <;> simp [firstBad, ih]

/-- The first offending field is the first check that fails, counted from 1. -/
theorem firstBad_eq_some (l : List Bool) (i : Nat) (h : i < l.length) (ht : ∀ b ∈ l.take i, b = true)
    (hf : l.getD i true = false) : firstBad l = some (i + 1) := by
  induction l generalizing i with
  | nil => simp at h
  | cons b l ih =>
    cases i with
    | zero => simp at hf; simp [hf, firstBad]
    | succ i =>
      simp only [List.take_succ_cons, List.mem_cons, forall_eq_or_imp] at ht
      simp at h hf
      simp [ht.1, firstBad, ih i h ht.2 (by simpa using hf)]

/-- The checks of a list of (value, least, greatest). -/
def rangeChecks (fields : List (Nat × Nat × Nat)) : List Bool :=
  fields.map fun f => decide (f.2.1 ≤ f.1) && decide (f.1 ≤ f.2.2)

/-- Checks that are ranges fail first at the first value out of its range. -/
theorem firstBad_ranges_some (fields : List (Nat × Nat × Nat)) (i : Nat) (h : FirstOutside fields i) :
    firstBad (rangeChecks fields) = some (i + 1) := by
  obtain ⟨h1, h2, h3⟩ := h
  apply firstBad_eq_some
  · simpa [rangeChecks] using h1
  · intro b hb
    rw [rangeChecks, ← List.map_take] at hb
    obtain ⟨f, hf, rfl⟩ := List.mem_map.1 hb
    have := h2 f hf; simp [this]
  · have := h3 fields[i] (by rw [List.mem_take_iff_getElem]; exact ⟨0, by simp; omega, by simp⟩)
    simp [rangeChecks, h1]; omega

/-- Checks that are ranges all hold when every value is inside its range. -/
theorem firstBad_ranges_none (fields : List (Nat × Nat × Nat)) (h : AllInside fields) :
    firstBad (rangeChecks fields) = none := by
  rw [firstBad_eq_none]; intro b hb
  obtain ⟨f, hf', rfl⟩ := List.mem_map.1 hb
  have := h f hf'; simp [this]

theorem Corner.ofCode_isSome (b : Byte) : (Corner.ofCode b).isSome = (decide (0 ≤ b.toNat) && decide (b.toNat ≤ 3)) := by
  revert b; decide

theorem flagOfCode_isSome (b : Byte) : (flagOfCode b).isSome = (decide (0 ≤ b.toNat) && decide (b.toNat ≤ 1)) := by
  revert b; decide

theorem Travel.ofCode_isSome (b : Byte) : (Travel.ofCode b).isSome = (decide (0 ≤ b.toNat) && decide (b.toNat ≤ 2)) := by
  revert b; decide

theorem isSomeCornerSet_eq (b : Byte) : isSomeCornerSet b = (decide (1 ≤ b.toNat) && decide (b.toNat ≤ 15)) := by
  revert b; decide

/-- The currents of a SetCurve record are its points. -/
theorem curveCurrents_eq (r : CurveRecord) : curveCurrents r = r.points.map (·.toNat) := by
  rw [← Vector.toList_inj, Vector.toList_map]; simp [curveCurrents, Vector.toList]

@[simp] theorem Corner.ofCode_code (c : Corner) : Corner.ofCode c.code = some c := by cases c <;> rfl

end Sys2Proof.Machine
end

