-- ==== Sys2Proof/Tests/Slice0.lean ====
section
/-! SUPPORT. The model's own tests: ill-formed commands, the spec's worked examples and tables, one step of each family, and
for each obligation with hypotheses a witness that meets them. -/

namespace Sys2Proof.Tests

open Sys2Proof Sys2Proof.Machine

/-! ### Well-formed commands -/

theorem test_wf_frame : (Instr.unknownKind ⟨0x05, 7, 2, [1, 2], 0⟩).wf = true := by decide

theorem test_wf_frame_length : (Instr.unknownKind ⟨0x05, 7, 2, [1], 0⟩).wf = false := by decide

theorem test_wf_frame_long : (Instr.unknownKind ⟨0x05, 7, 49, [1], 0⟩).wf = false := by decide

theorem test_wf_frame_long_empty : (Instr.unknownKind ⟨0x05, 7, 49, [], 0⟩).wf = true := by decide

theorem test_wf_frame_nop : (Instr.unknownKind ⟨0x00, 7, 0, [], 0⟩).wf = false := by decide

theorem test_wf_frame_known : (Instr.unknownKind ⟨0x01, 7, 0, [], 0⟩).wf = false := by decide

theorem test_wf_profile_empty : (Instr.setProfile 1 4 []).wf = false := by decide

theorem test_wf_profile_long : (Instr.setProfile 1 4 (List.replicate 7 ⟨500, 0, 10⟩)).wf = false := by decide

theorem test_wf_profile : (Instr.setProfile 1 4 (List.replicate 6 ⟨500, 0, 10⟩)).wf = true := by decide

/-- The table gives no row any bits, so no word spells a command. -/
theorem test_decode_nothing : decodeTableWord 8 1 = none := by decide

/-! ### Arithmetic: the spec's tables -/

/-- The check byte of Identify with Tag 0x07, after each byte (10.3). -/
theorem test_crc : crc8 [0x01] = 0xD9 ∧ crc8 [0x01, 0x07] = 0x5E ∧ crc8 [0x01, 0x07, 0x00] = 0x78 := by decide

/-- The rising curve of 6.6. -/
def rising : Vector Nat 11 := #v[260, 340, 450, 600, 820, 1010, 1180, 1330, 1460, 1570, 1650]

/-- The table of 6.6: halves away from zero, P10 at 1000. -/
theorem test_map_rising : [0, 437, 500, 540, 845, 999, 1000].map (mapCurrent rising) =
    [260, 890, 1010, 1078, 1510, 1649, 1650] := by decide

/-- The table of R106. -/
theorem test_feedForward : feedForward 890 4200 13800 = 277 ∧ feedForward 1570 4200 13800 = 489 ∧
    feedForward 1650 6000 8200 = 1023 ∧ feedForward 260 4200 19400 = 62 := by decide

/-- The table of R107: target, Im, Ki, duty in force, trim before and after. -/
theorem test_trim :
    [(890, 874, 96, 277, 0), (890, 896, 64, 283, 6), (1570, 1561, 64, 495, 6), (1650, 1340, 64, 1023, 12),
     (400, 80, 255, 300, 0)].map (fun (t, im, ki, duty, trim) =>
      ({ Regulator.reset 0 with duty := duty, trim := trim } : Regulator).trimAfter t im ki) = [6, 4, 8, 12, 255] := by
  decide

/-- The probe of 7.10: R_meas 4214, R_est to 4201; then R_meas 4100, R_est to 4189. -/
theorem test_probe_estimate : resistance 283 13800 (meanOfFour 3620) = 4214 ∧ moveEstimate 4200 4214 = 4201 ∧
    moveEstimate 4201 4100 = 4189 := by decide

/-- The table of R21. -/
theorem test_vbat : [1024, 1536, 2355, 3072].map batteryVoltage = [6000, 9000, 13799, 18000] := by decide

/-- The positions of 2.7. -/
theorem test_position : [2338, 2355, 2374, 2392, 2410, 2425].map
    ({ Sensing.reset with scale := some (2048, 62) } : Sensing).position = [180, 190, 202, 213, 224, 234] := by decide

/-- The speeds of 1.9. -/
theorem test_wheel_speed : wheelSpeed (some ⟨3050, 2150, 48⟩) (some 1600) = 27995 ∧
    wheelSpeed (some ⟨3050, 2150, 48⟩) (some 1604) = 27925 := by decide

/-- The increments of 1.9. -/
theorem test_increment : increment ⟨3050, 2150, 48⟩ false = 5733 ∧ increment ⟨3050, 2150, 48⟩ true = 11467 := by decide

/-- The odometer across its wrap (1.9). -/
theorem test_wrap : (let d := ({ Distance.reset 0 with odometer := 4294967290, fraction := 200 } : Distance).advance 5733
    (d.odometer, d.fraction)) = (17, 45) ∧ signedDiff 17 4 = -13 ∧ signedDiff 17 4294967280 = -33 := by decide

/-- The band's hysteresis (R144). -/
theorem test_band : Band.normal.after 17501 = .normal ∧ Band.hold.after 17501 = .hold ∧ Band.low.after 9499 = .low ∧
    Band.low.after 9500 = .normal ∧ Band.normal.after 8999 = .low ∧ Band.hold.after 6499 = .hold ∧
    Band.hold.after 9499 = .low := by decide

/-- An entry of the examples of 3.10. -/
def entry (id : Byte) (arrival : Odo) (cls : Nat) (profile : Nat) (o : Origin) (f : Option Front) (d : Dir) : Entry :=
  { id := id, arrival := arrival, cls := cls, dir := d, profile := profile, origin := o, source := f }

def id37 : Entry := entry 37 500000 1 2 .injected none .compression
def id39 : Entry := entry 39 500210 2 5 .detected (some .fl) .rebound
def id40 : Entry := entry 40 500560 1 2 .detected (some .fl) .compression
def id44 : Entry := entry 44 500118 2 3 .detected (some .fl) .compression

/-- A merge across two neighbours (3.10). -/
theorem test_merge : insertEntry 150 id44 [id37, id39, id40] =
    ⟨[{ id39 with arrival := 500000 }, id40], .merged, { id39 with arrival := 500000 }, none⟩ := by decide

/-- The full queue of 3.10. -/
def full : List Entry :=
  [(50, 610000, 2), (51, 610400, 1), (52, 610800, 3), (53, 611200, 1), (54, 611600, 2), (55, 612000, 1), (56, 612400, 2),
   (57, 612800, 3)].map fun (i, a, c) => entry i a c 2 .injected none .compression

def id58 : Entry := entry 58 613500 2 2 .injected none .compression

/-- The three entries that meet the full queue of 3.10. -/
theorem test_full_queue :
    (insertEntry 150 id58 full).outcome = .evicted ∧
    (insertEntry 150 id58 full).lost.map (·.id) = some 55 ∧
    (insertEntry 150 { id58 with id := 59, arrival := 614000, cls := 1 } (insertEntry 150 id58 full).queue).outcome =
      .dropped ∧
    (insertEntry 150 { id58 with id := 60, arrival := 612450, cls := 1 } (insertEntry 150 id58 full).queue).holder =
      entry 56 612400 2 2 .injected none .compression := by decide

/-! ### States and one step -/

/-- What one command leaves, tested. -/
def after (i : Instr) (s : State) (p : State → Bool) : Bool :=
  match exec i s with
  | .next t => p t
  | _ => false

/-- A regulator in Off, its period ending at 500. -/
def off : Regulator := { Regulator.reset 0 with mode := .off, duty := 0 }

/-- Configuring, nothing written. -/
def cfg : State := { State.reset with
  control := { State.reset.control with part := .configuring, startTimer := none }, reg := PerCorner.all off }

/-- Configuring, complete with FL alone Enabled: the geometry of 1.9, the curve of 6.6, a VBAT of 13,800. -/
def ready : State := { cfg with
  dist := { cfg.dist with ring := some ⟨3050, 2150, 48⟩ },
  sensing := cfg.sensing.set .fl { Sensing.reset with enabled := true, scale := some (2048, 62) },
  mapper := cfg.mapper.set .fl { curve := some rising, last := none },
  supply := { vbat := some 13800, band := .normal } }

/-- The profile of 4.8. -/
def steps : List ProfileStep := [⟨900, .set, 420⟩, ⟨1000, .set, 250⟩, ⟨700, .floor, 300⟩, ⟨500, .floor, 10⟩, ⟨400, .floor, 200⟩]

/-- Running, as Start leaves `ready` with the direction Forward; profile 4 defined. -/
def run : State := { ready with
  control := { ready.control with part := .running, demandTimer := some 100000 },
  dist := { ready.dist with direction := .forward },
  preview := { ready.preview with active := true, profiles := ready.preview.profiles.setIfInBounds 4 (some steps) },
  arbiter := ready.arbiter.set .fl { Arbiter.reset with
    active := true, stored := some 500, level := some .chassis, resolved := some 500 },
  mapper := ready.mapper.set .fl { curve := some rising, last := some 1010 },
  reg := ready.reg.set .fl { off with mode := .regulating, target := some 1010, rEst := 4200, duty := 300 } }

/-- Failsafe after a Halt. -/
def failsafe : State := { run with
  control := { run.control with part := .failsafe, cause := some .halt, demandTimer := none },
  preview := { run.preview with active := false },
  arbiter := run.arbiter.set .fl { run.arbiter.fl with
    failsafe := some 600, level := some .failsafe, resolved := some 600 } }

/-- Parked. -/
def parked : State := { cfg with
  control := { cfg.control with part := .parked }, conv := { timer := none, pos := .idle },
  reg := PerCorner.all { off with period := none },
  dist := { cfg.dist with wheel := ⟨{ cfg.dist.wheel.fl with silence := none }, { cfg.dist.wheel.fr with silence := none }⟩ } }

/-- Waking, its timer ending at 2000. -/
def waking : State := { parked with
  control := { parked.control with part := .waking, wakeTimer := some 2000 }, conv := { timer := some 1000, pos := .idle } }

/-- A state with a regulator at FL. -/
def withReg (r : Regulator) (s : State) : State := { s with reg := s.reg.set .fl r }

/-- A state within a transaction that sends a filler frame. -/
def inTransaction (a : Assembly) (received : List Byte) (s : State) : State :=
  { s with link := { s.link with
    selnLow := true, outbound := some (.filler 0x10), sent := received.length, sdo := some 0, assembly := a,
    received := received } }

/-- A reply of four queued. -/
def idReply : Reply := ⟨0x81, 7, .ok, 0x10, [0x04, 0x10, 0x01, 0x01]⟩

/-- RESETN asserted: the reset is held, nothing runs. -/
theorem test_resetn : after .resetn run (fun t => t.resetLow && t.control.part = .starting &&
    t.control.startTimer.isNone && t.reg.fl.duty = 0 && t.link.events.isEmpty) = true := by decide

/-- RESETN released: Starting, 12 ms from now, the self-test at duty 160. -/
theorem test_resetn_release : after .resetn (holdReset run) (fun t => !t.resetLow && t.control.part = .starting &&
    t.control.startTimer = some 12000 && t.reg.fl.duty = 160) = true := by decide

/-- While RESETN is low a request is not answered. -/
theorem test_reset_held : after (.identify 7) (holdReset cfg) (fun t => t.link.replies.isEmpty) = true := by decide

theorem test_startingEnd : after .startingEnd State.reset (fun t => t.now = 12000 &&
    t.link.events = [⟨.stateChanged, none, 1, 0, 0, 1⟩]) = true := by decide

set_option maxRecDepth 2000 in
/-- The four bytes of 10.3 within a transaction draw the reply to Identify. -/
theorem test_link_identify : (match execAll [.transactionBegin, .wholeByte 0x01, .wholeByte 0x07, .wholeByte 0x00,
      .frameComplete 0x78] cfg with
    | .next t => t.link.replies = [idReply]
    | _ => false) = true := by decide

set_option maxRecDepth 2000 in
theorem test_link_badCheck : (match execAll [.transactionBegin, .wholeByte 0x01, .wholeByte 0x07, .wholeByte 0x00,
      .frameComplete 0x79] cfg with
    | .next t => t.link.replies = [⟨0xFF, 7, .badCheck, 0x10, []⟩]
    | _ => false) = true := by decide

theorem test_nop : after .nop (inTransaction .header [] cfg) (fun t => t.link.assembly = .ignoring) = true := by decide

theorem test_transactionEnd_truncated : after .transactionEnd
    { cfg with link := { cfg.link with replies := [idReply], selnLow := true, outbound := some (.reply idReply), sent := 9 } }
    (fun t => t.link.replies.isEmpty && t.link.events = [⟨.replyTruncated, none, 0, 0, 7, 1⟩]) = true := by decide

theorem test_readEvents : after (.readEvents 1 2) { cfg with link := { cfg.link with
      events := [⟨.supplyLow, none, 0, 0, 8900, 2⟩], atn := true } } (fun t => t.link.replies =
    [⟨0x84, 1, .ok, 0x10, [1, 0, 0x0A, 0xFF, 0, 0, 0x22, 0xC4, 2]⟩] && !t.link.atn) = true := by decide

theorem test_setGeometry_badValue : after (.setGeometry 1 ⟨3050, 2150, 121, 15, 150, 2500⟩) cfg
    (fun t => t.link.replies = [⟨0x90, 1, .badValue, 0x10, [3, 0]⟩] && t.dist.ring.isNone) = true := by decide

/-- The three records of 6.6. -/
theorem test_setCurve : after (.setCurve 1 ⟨2, #v[260, 340, 450, 600, 820, 810, 1180, 1330, 1460, 1570, 1650]⟩) cfg
      (fun t => t.link.replies = [⟨0x92, 1, .badCurve, 0x10, [5]⟩]) = true ∧
    after (.setCurve 1 ⟨2, #v[260, 340, 450, 600, 820, 1010, 1180, 1330, 1460, 1570, 2150]⟩) cfg
      (fun t => t.link.replies = [⟨0x92, 1, .badValue, 0x10, [12, 0]⟩]) = true ∧
    after (.setCurve 1 ⟨2, #v[260, 340, 450, 600, 820, 1010, 1180, 1330, 1460, 1570, 1650]⟩) cfg
      (fun t => t.mapper.rl.curve = some rising) = true := by decide

theorem test_start_incomplete : after (.start 9) cfg
    (fun t => t.link.replies = [⟨0xB0, 9, .incomplete, 0x10, [0, 0xFF, 1, 0xFF]⟩]) = true := by decide

theorem test_park_moving : after (.park 9) { cfg with dist := { cfg.dist with speed := 1 } }
    (fun t => t.control.part = .configuring) = true := by decide

theorem test_resume_noDemand : after (.resume 9) failsafe
    (fun t => t.link.replies = [⟨0xB3, 9, .noDemand, 0x30, []⟩]) = true := by decide

/-- The second record of 5.6: Clamped, RL 999, RR 1000, FR kept. -/
theorem test_demand : after (.demand 1 ⟨1200, 65535, 999, 1001⟩) cfg (fun t =>
    [t.arbiter.fl.stored, t.arbiter.fr.stored, t.arbiter.rl.stored, t.arbiter.rr.stored] =
      [some 1000, none, some 999, some 1000] &&
    t.link.replies = [⟨0xC0, 1, .clamped, 0x10, []⟩]) = true := by decide

theorem test_injectPreview_inactive : after (.injectPreview 1 ⟨1, 300, 1, 0, 4⟩) failsafe
    (fun t => t.link.replies = [⟨0xC2, 1, .wrongState, 0x30, []⟩]) = true := by decide

theorem test_injectPreview : after (.injectPreview 1 ⟨0b0101, 300, 1, 0, 4⟩) run
    (fun t => t.link.replies = [⟨0xC2, 1, .ok, 0x20, [0, 0, 0, 2, 4, 0xFF]⟩] && t.queue.fl.length = 1) = true := by decide

theorem test_coilTest_latched : after (.coilTest 1 0) (withReg { off with latched := true } cfg)
    (fun t => t.link.replies = [⟨0xC4, 1, .latched, 0x10, []⟩]) = true := by decide

/-- A wheel pulse within 50 µs of the last accepted edge is a glitch, at 50 µs it is accepted (R3). -/
theorem test_glitch :
    let s := { cfg with dist := { cfg.dist with wheel := cfg.dist.wheel.set .fl { cfg.dist.wheel.fl with
      lastEdge := some 0 } } }
    after (.wheelPulse .fl 49) s (fun t => t.dist.wheel.fl.cross = 0) = true ∧
    after (.wheelPulse .fl 50) s (fun t => t.dist.wheel.fl.cross = 1) = true := by decide

/-- 250 ms: FR silence expiry in the example of 1.9. -/
theorem test_silence : after (.silenceExpiry .fr) { cfg with dist := { cfg.dist with
      speed := 27995, wheel := ⟨{ cfg.dist.wheel.fl with speed := 27995, cross := 156 }, cfg.dist.wheel.fr⟩ } }
    (fun t => t.dist.wheel.fr.state = .faulted && t.dist.wheel.fl.cross = 0) = true := by decide

theorem test_scan : after .scan cfg (fun t => t.conv = { timer := some 2000, pos := .travel .fl }) = true := by decide

/-- The third bad sample in a row is a SensorFault (2.7, sample 11). -/
theorem test_sensorFault : after (.travelConversion 4018) { ready with
      conv := { ready.conv with pos := .travel .fl },
      sensing := ready.sensing.set .fl { ready.sensing.fl with bad := 2 } }
    (fun t => t.sensing.fl.faulted && t.link.events = [⟨.sensorFault, some .fl, 1, 0, 4018, 1⟩]) = true := by decide

/-- The first expiry of the regulation step of 7.10. -/
theorem test_regulating : after (.periodExpiry .fl 874) { withReg { run.reg.fl with
      target := some 890, duty := 277 } run with regulation := { run.regulation with ki := 96 } }
    (fun t => t.reg.fl.duty = 283 && t.reg.fl.trim = 6) = true := by decide

/-- The end of the kick of 7.10. -/
theorem test_kick_end : after (.periodExpiry .fl 1588) (withReg { run.reg.fl with
      mode := .kick 2, target := some 1570, duty := 1023, trim := 6 } run)
    (fun t => t.reg.fl.mode = .regulating && t.reg.fl.duty = 495) = true := by decide

/-- The third expiry below 20 mA at duty 200 or more is CoilOpen (R134). -/
theorem test_coilOpen : after (.periodExpiry .fl 19) (withReg { run.reg.fl with openCount := 2 } run)
    (fun t => t.reg.fl.mode = .faulted && t.link.events = [⟨.coilOpen, some .fl, 0, 0, 19, 1⟩]) = true := by decide

/-- The pothole of 4.8 at 1,208,536: step 3 is skipped. -/
theorem test_skip : (endSteps 1208536 5 ⟨4, steps, 2, 1208219, 3, 41, .compression, .detected, some .fl⟩).map
    (fun y => (y.index, y.start)) = some (4, 1208529) := by decide

theorem test_demandTimeout : after .demandTimeout failsafe (fun t => t.control.part = .failsafe) = true := by decide

theorem test_halt_waits : after (.halt 3) { run with link := { run.link with
      replies := List.replicate 4 idReply } } (fun t => t.control.part = .running && t.link.inbound.length = 1) = true := by
  decide

/-! ### Witnesses: for each obligation with hypotheses, and each of its clauses, a state and operands that meet them -/

/-- Either command with the line high and low, and a state that RESETN has just put into reset. -/
theorem witness_ResetValues :
    (Instr.resetn = .resetn ∧ true = !cfg.resetLow) ∧ (Instr.resetn = .resetn ∧ false = !(holdReset cfg).resetLow) ∧
    (Instr.powerOn = .powerOn ∧ false = cfg.resetLow) ∧ (Instr.powerOn = .powerOn ∧ true = (holdReset cfg).resetLow) ∧
    cfg.resetLow = false ∧ exec .resetn cfg = .next (holdReset cfg) ∧ Instr.scan ≠ .resetn :=
  ⟨by decide, by decide, by decide, by decide, rfl, rfl, by decide⟩

theorem witness_TimersEnterConfiguring : State.reset.control.startTimer = some 12000 ∧
    waking.control.wakeTimer = some 2000 := by decide

/-- RESETN low and high, an empty and a waiting reply queue. -/
theorem witness_FallingEdgeOpensTransaction : cfg.link.selnLow = false ∧ cfg.control.part ≠ .parked ∧
    (holdReset cfg).resetLow = true ∧ (holdReset cfg).link.selnLow = false ∧ cfg.resetLow = false ∧
    cfg.link.replies = [] ∧ run.control.part ≠ .parked ∧
    ({ run with link := { run.link with replies := [idReply] } } : State).link.replies = idReply :: [] := by decide

theorem witness_FallingEdgeWakesParked : parked.resetLow = false ∧ parked.link.selnLow = false ∧
    parked.control.part = .parked ∧ parked.link.replies = [] ∧
    ({ parked with link := { parked.link with replies := [idReply] } } : State).link.replies = idReply :: [] := by decide

/-- Outside a transaction, in Padding, Ignoring and Header, and as a Restart leaves it: void, in Idle. -/
theorem witness_BytesWithoutRequest : cfg.link.outbound = none ∧
    (inTransaction .padding [] cfg).link.assembly = .padding ∧
    (inTransaction .ignoring [] cfg).link.outbound = some (.filler 0x10) ∧
    (inTransaction .header [] cfg).link.outbound = some (.filler 0x10) ∧
    (inTransaction .header [] cfg).link.assembly = .header ∧ (inTransaction .header [] cfg).link.received = [] ∧
    after (.restart 7) (inTransaction .padding [1] cfg)
      (fun t => t.link.outbound = some .void && t.link.assembly = .idle) = true := by decide

/-- Frames with Length 0, 48 and 49. -/
theorem witness_LinkAssemblesEveryFrame : Frame.wf ⟨0x01, 7, 0, [], 0x78⟩ = true ∧
    Frame.wf ⟨0xFF, 0, 48, List.replicate 48 5, 0⟩ = true ∧ Frame.wf ⟨0x20, 0, 49, [], 0⟩ = true ∧
    (inTransaction .header [] cfg).link.outbound = some (.filler 0x10) ∧
    (inTransaction .header [] cfg).link.assembly = .header ∧ (inTransaction .header [] cfg).link.received = [] := by decide

/-- A complete frame at an inbound queue of two, of one with four replies outstanding, and of none. -/
theorem witness_CompleteFrameOffered :
    let s := inTransaction .check [0x01, 7, 0] cfg
    let f : Frame := ⟨0x01, 7, 0, [], 0x78⟩
    s.link.assembly = .check ∧ 3 ≤ s.link.received.length ∧ s.Listening ∧
    ({ s.link with inbound := [f, f] } : LinkState).inbound.length = 2 ∧
    ({ s.link with inbound := [f], replies := List.replicate 4 idReply } : LinkState).inbound.length < 2 ∧
    4 ≤ ({ s.link with inbound := [f], replies := List.replicate 4 idReply } : LinkState).outstanding := by decide

/-- A rising edge with a reply just gone out, one byte short of it, and in a filler transaction; a frame that waits with
three replies outstanding and with four. -/
theorem witness_RisingEdgeEndsTransaction :
    let s := inTransaction .padding [] cfg
    let f : Frame := ⟨0x01, 7, 0, [], 0x78⟩
    let w (n : Nat) : State := { cfg with link := { cfg.link with inbound := [f], replies := List.replicate n idReply } }
    s.link.selnLow = true ∧ s.link.inbound = [] ∧ (∀ r, s.link.outbound ≠ some (.reply r)) ∧ idReply.bytes.length = 10 ∧
    (w 3).link.inbound = f :: [] ∧ (w 3).link.outstanding < 4 ∧ 4 ≤ (w 4).link.outstanding :=
  ⟨rfl, rfl, fun r h => (by cases h), by decide, rfl, by decide, by decide⟩

set_option maxRecDepth 2000 in
/-- A bad check byte, an unknown kind, an unsound length and a sound frame. -/
theorem witness_FrameChecksInOrder : cfg.Listening ∧ crc8 (Frame.covered ⟨0x01, 7, 0, [], 0x79⟩) ≠ 0x79 ∧
    (let f : Frame := ⟨0x05, 7, 0, [], crc8 [0x05, 7, 0]⟩
     crc8 f.covered = f.check ∧ Link.lengths f.kind = none) ∧
    (let f : Frame := ⟨0x01, 7, 1, [0], crc8 [0x01, 7, 1, 0]⟩
     crc8 f.covered = f.check ∧ Link.lengths f.kind = some [0] ∧ f.length.toNat ∉ [0]) ∧
    (let f : Frame := ⟨0x01, 7, 0, [], 0x78⟩
     crc8 f.covered = f.check ∧ Link.lengths f.kind = some [0] ∧ f.length.toNat ∈ [0] ∧
      f.payload.length = f.length.toNat) := by decide

/-- Requests of fixed length and of one and six steps. -/
theorem witness_RequestFramesReadBack : Request.identify.lengthAllowed = true ∧
    (Request.setProfile 4 [⟨900, 0, 420⟩]).lengthAllowed = true ∧
    (Request.setProfile 4 (List.replicate 6 ⟨900, 0, 420⟩)).lengthAllowed = true := by decide

/-- Every part state, each with a request that it takes and one that it refuses. -/
theorem witness_StateTestTable :
    (State.reset.Listening ∧ State.reset.control.part = .starting) ∧ (cfg.Listening ∧ cfg.control.part = .configuring) ∧
    (run.Listening ∧ run.control.part = .running) ∧ (failsafe.Listening ∧ failsafe.control.part = .failsafe) ∧
    (parked.Listening ∧ parked.control.part = .parked) ∧ (waking.Listening ∧ waking.control.part = .waking) ∧
    Request.identify.lengthAllowed = true ∧ Request.identify.kind = 0x01 ∧ Request.start.lengthAllowed = true ∧
    Request.start.kind = 0x30 ∧ Request.resume.lengthAllowed = true ∧ Request.resume.kind = 0x33 := by decide

/-- Every part state, and three replies waiting. -/
theorem witness_IdentifyAnswersAtOnce :
    (State.reset.Listening ∧ State.reset.control.part = .starting) ∧ (cfg.Listening ∧ cfg.control.part = .configuring) ∧
    (run.Listening ∧ run.control.part = .running) ∧ (failsafe.Listening ∧ failsafe.control.part = .failsafe) ∧
    (parked.Listening ∧ parked.control.part = .parked) ∧ (waking.Listening ∧ waking.control.part = .waking) ∧
    ({ run with link := { run.link with replies := List.replicate 3 idReply } } : State).Listening := by decide

theorem witness_ReadStatusReports : run.Listening ∧ run.control.part ≠ .starting ∧ run.control.part ≠ .waking ∧
    cfg.control.demandTimer = none ∧ run.control.demandTimer = some 100000 ∧ 100000 ≤ run.now + 1000000 ∧
    cfg.supply.vbat = none ∧ run.supply.vbat = some 13800 ∧ 13800 ≤ 23994 := by decide

/-- A Running corner with a step in force, an entry queued, five positions and a running hold timer, and its opposite. -/
theorem witness_ReadCornerReports : run.Listening ∧ run.control.part = .running ∧
    (run.arbiter.get .fl).active = true ∧
    ({ run.arbiter.fl with preview := some ⟨900, .set⟩ } : Arbiter).preview = some ⟨900, .set⟩ ∧
    (run.arbiter.get .fl).preview = none ∧ (run.guard.get .fl).timer = none ∧
    ({ run.guard.fl with timer := some 200000 } : Guard).timer = some 200000 ∧ 200000 ≤ run.now + 200000 ∧
    ({ run.sensing.fl with history := [1, 2, 3, 4, 5] } : Sensing).history = [1, 2, 3, 4, 5] ∧
    (run.sensing.get .fl).history.length ≠ 5 ∧ run.queue.get .fl = [] ∧ (run.queue.set .fl [id37]).get .fl = id37 :: [] ∧
    run.context.get .fl = none := by decide

/-- 1, 6, 0 and 7 records wanted. -/
theorem witness_ReadEventsTakesOldest : cfg.Listening ∧ (1 ≤ (1 : Byte).toNat ∧ (1 : Byte).toNat ≤ 6) ∧
    (1 ≤ (6 : Byte).toNat ∧ (6 : Byte).toNat ≤ 6) ∧ (0 : Byte).toNat < 1 ∧ 6 < (7 : Byte).toNat := by decide

/-- The first field, and the last with all before it at their bounds. -/
theorem witness_FirstFieldOutOfRangeRefused : cfg.Listening ∧
    stateTest (.setGeometry ⟨1999, 2150, 48, 15, 150, 2500⟩) cfg.control.part = none ∧
    FirstOutside (Request.setGeometry ⟨1999, 2150, 48, 15, 150, 2500⟩).ranges 0 ∧
    FirstOutside (Request.setGeometry ⟨2000, 3000, 20, 50, 1000, 20001⟩).ranges 5 := by decide

/-- The defaults, and for SetDetection thresholds in order and out of order at field 2. -/
theorem witness_SettingsReplaced : cfg.ListeningIn .configuring ∧
    AllInside (Request.setSafety ⟨20, 1000, ⟨500, 500, 500, 1000⟩⟩).ranges ∧
    AllInside (Request.setRegulation ⟨1, 1000, 15, 255, 2000, 20, 2000, 20⟩).ranges ∧
    detectionChecks cfg.preview ⟨600, 1200, 2000, 500, 1000, 1800, 100, 300, 255, 255, 255, 255, 255, 255⟩ =
      List.replicate 14 true ∧
    detectionChecks cfg.preview ⟨600, 600, 2000, 500, 1000, 1800, 100, 300, 255, 255, 255, 255, 255, 255⟩ =
      true :: false :: List.replicate 12 true := by decide

/-- One and six steps, profiles 7 and 8, a second step with its Length 0. -/
theorem witness_ProfileWritten :
    let fields : StepRecord → List (Nat × Nat × Nat) := fun st =>
      [(st.demand.toNat, 0, 1000), (st.mode.toNat, 0, 1), (st.length.toNat, 1, 5000)]
    cfg.Listening ∧ cfg.control.part = .configuring ∧ (7 : Byte).toNat ≤ 7 ∧ 7 < (8 : Byte).toNat ∧
    (∀ st ∈ List.replicate 6 (⟨1000, 1, 5000⟩ : StepRecord), AllInside (fields st)) ∧
    FirstOutside (fields ⟨1000, 1, 0⟩) 2 ∧ FirstOutside (fields ⟨1001, 2, 0⟩) 0 := by decide

theorem witness_GeometryWritten : cfg.ListeningIn .configuring ∧ (∀ c, cfg.queue.get c = []) ∧
    AllInside (Request.setGeometry ⟨4000, 1500, 120, 0, 0, 20000⟩).ranges :=
  ⟨by decide, fun c => by cases c <;> rfl, by decide⟩

theorem witness_CornerWritten : cfg.ListeningIn .configuring ∧
    AllInside (Request.setCorner ⟨0, 1, 4095, 10, 1⟩).ranges ∧ AllInside (Request.setCorner ⟨0, 0, 0, 200, 0⟩).ranges ∧
    (0 : Byte) = Corner.fl.code := by decide

/-- The curves of 6.6: a sound one, and one that turns back at P5. -/
theorem witness_CurveWritten :
    let bad := [260, 340, 450, 600, 820, 810, 1180, 1330, 1460, 1570, 1650]
    cfg.ListeningIn .configuring ∧
    AllInside (Request.setCurve ⟨2, #v[260, 340, 450, 600, 820, 810, 1180, 1330, 1460, 1570, 1650]⟩).ranges ∧
    rising.toList.Pairwise (· ≤ ·) ∧ (bad.take 5).Pairwise (· ≤ ·) ∧
    ¬ ((bad.take 6).Pairwise (· ≤ ·) ∨ (bad.take 6).Pairwise (· ≥ ·)) := by decide

/-- A guard Released, Engaged with its band kept, and Engaged with its band made 0. -/
theorem witness_GuardWritten : run.Listening ∧ run.control.part = .running ∧
    AllInside (Request.setGuard ⟨0, 1500, 0, 5000, 1000, 200⟩).ranges ∧ (run.guard.get .fl).engaged = none ∧
    ({ run.guard.fl with engaged := some .compression } : Guard).engaged = some .compression ∧
    (1500 : Half) ≠ 0 ∧ ({ run.guard.fl with engaged := some .rebound } : Guard).engaged = some .rebound := by decide

theorem ready_previewSound : ready.PreviewSound :=
  ⟨rfl, fun _ => ⟨fun c => by cases c <;> rfl, fun c => by cases c <;> rfl⟩, fun _ f => by cases f <;> rfl⟩

/-- Items missing and none; the supply band Hold; a test excitation in flight at FL. -/
theorem witness_StartChecksThenRuns :
    let hold : State := { ready with supply := { ready.supply with band := .hold } }
    let tested : State := { withReg { off with mode := .test 3 0 .off, duty := 160 } ready with
      link := { ready.link with inflight := ready.link.inflight.set .fl (some 7), reservations := 1 } }
    cfg.ListeningIn .configuring ∧ missingItems cfg ≠ [] ∧
    ready.ListeningIn .configuring ∧ missingItems ready = [] ∧ ready.PreviewSound ∧ ready.supply.band ≠ .hold ∧
    (∀ c, (ready.mapper.get c).last = none) ∧ (∀ c, (ready.reg.get c).mode = .off ∨ (ready.reg.get c).mode = .faulted) ∧
    (ready.sensing.get .fl).enabled = true ∧ (ready.mapper.get .fl).curve = some rising ∧
    hold.ListeningIn .configuring ∧ hold.supply.band = .hold ∧ tested.ListeningIn .configuring ∧
    (tested.reg.get .fl).mode = .test 3 0 .off ∧ ReturnMode.off.mode = .off :=
  ⟨by decide, by decide, by decide, by decide, ready_previewSound, by decide, fun c => by cases c <;> rfl,
    fun c => by cases c <;> decide, rfl, rfl, by decide, rfl, by decide, rfl, rfl⟩

theorem witness_StopAndParkLeaveRunning : run.Listening ∧ run.control.part = .running ∧ failsafe.Listening ∧
    failsafe.control.part = .failsafe ∧ failsafe.dist.speed = 0 ∧
    ({ failsafe with dist := { failsafe.dist with speed := 1 } } : State).dist.speed ≠ 0 := by decide

/-- Running and Failsafe with the demand timer running; an Active corner, with and without a context, and an Idle one. -/
theorem witness_FailsafeEntry :
    let s : State := { failsafe with control := { failsafe.control with demandTimer := some 100000 } }
    run.control.part = .running ∧ run.Listening ∧ run.control.demandTimer = some 100000 ∧ s.control.part ≠ .running ∧
    s.control.demandTimer = some 100000 ∧ (run.arbiter.get .fl).active = true ∧ (run.arbiter.get .rr).active = false ∧
    run.context.get .fl = none ∧ ((run.context.set .fl
      (some ⟨4, steps, 0, 0, 3, 41, .compression, .detected, some .fl⟩)).get .fl).isSome = true := by decide

theorem witness_ResumeNeedsDemand :
    let s : State := { failsafe with control := { failsafe.control with demandTimer := some 100000 } }
    failsafe.ListeningIn .failsafe ∧ failsafe.control.demandTimer = none ∧ s.ListeningIn .failsafe ∧
    s.control.demandTimer ≠ none ∧ s.PreviewSound :=
  ⟨by decide, rfl, by decide, by decide, rfl,
    fun _ => ⟨fun c => by cases c <;> rfl, fun c => by cases c <;> rfl⟩, fun _ f => by cases f <;> rfl⟩

theorem witness_RestartResets : cfg.Listening ∧ cfg.control.part = .configuring ∧ failsafe.control.part = .failsafe ∧
    parked.Listening ∧ State.resetAt cfg.now cfg.choices cfg.pending cfg.link.selnLow = beginStarting cfg := by decide

/-- An Idle arbiter; an Active one whose value stays, changes within one current, and changes the current. -/
theorem witness_ArbiterResolves : (cfg.arbiter.get .fl).active = false ∧ (run.arbiter.get .fl).active = true ∧
    run.arbiter.fl.winner = (.chassis, run.arbiter.fl.resolved) ∧
    ({ run.arbiter.fl with stored := some 540 } : Arbiter).winner.2 = some 540 ∧
    run.arbiter.fl.resolved ≠ some 540 ∧ (run.mapper.get .fl).curve = some rising ∧
    (run.mapper.get .fl).last ≠ some (mapCurrent rising 540) ∧
    mapCurrent (Vector.replicate 11 1010) 540 = 1010 := by decide

theorem witness_CurveMapsDemand : (10 : Nat) ≤ 10 ∧ (9 : Nat) ≤ 9 ∧ (100 : Nat) ≤ 100 ∧ (999 : Nat) ≤ 1000 ∧
    rising.toList.Pairwise (· ≤ ·) ∧ rising.toList.reverse.Pairwise (· ≥ ·) ∧
    rising.toList.getD 9 0 ≤ rising.toList.getD 10 0 := by decide

/-- A regulator of each mode, Off without a target, and the settings with and without FixedLatency. -/
theorem witness_TargetTakenByMode : run.reg.fl.target = some 1010 ∧ run.reg.fl.mode = .regulating ∧
    Regulation.reset.fixedLatency = false ∧
    ({ Regulation.reset with fixedLatency := true } : Regulation).fixedLatency = true ∧ off.mode = .off ∧
    off.target = none ∧ ({ off with mode := .test 15 0 .faulted } : Regulator).mode = .test 15 0 .faulted ∧
    ({ run.reg.fl with mode := .kick 0 } : Regulator).mode = .kick 0 ∧
    ({ run.reg.fl with mode := .quench 5 } : Regulator).mode = .quench 5 ∧
    ({ run.reg.fl with mode := .probe 3 0 } : Regulator).mode = .probe 3 0 := by decide

theorem witness_ApplyTimeByMode :
    ({ run.reg.fl with slot := some ⟨950, some 43200⟩ } : Regulator).slot = some ⟨950, some 43200⟩ ∧
    ({ run.reg.fl with slot := some ⟨950, some 43200⟩ } : Regulator).target = some 1010 := by decide

/-- Values 1000, 1001, 65,534 and Keep. -/
theorem witness_DemandWritesStores : run.Listening ∧ run.control.part = .running ∧ (65535 : Half).toNat = 65535 ∧
    1000 < (1001 : Half).toNat ∧ (65534 : Half).toNat < 65535 ∧ ¬ 1000 < (1000 : Half).toNat := by decide

/-- A DriveState that keeps preview active, one that sets DistanceLost, and the timer's expiry; a corner with a context and
one without. -/
theorem witness_DriveStateSetsDirection : run.Listening ∧ (2 : Byte).toNat ≤ 2 ∧ run.control.part = .running ∧
    run.dist.wheel.fl.speed = 0 ∧ run.dist.wheel.fr.speed = 0 ∧ 2000 ≤ (2000 : Quad).toNat ∧ run.preview.active = true ∧
    run.context.get .fl = none ∧ (run.context.set .fl
      (some ⟨4, steps, 0, 0, 3, 41, .compression, .detected, some .fl⟩)).get .fl ≠ none ∧
    ({ run.dist with driveTimer := some 500000 } : Distance).driveTimer = some 500000 := by decide

/-- The flag false; class 4 and then profile 5 undefined as first offending fields; RL alone named; FL named with RL; FL
alone named, with the distance at the lead of 419 and above it. -/
theorem witness_InjectPreviewMakesEntry :
    let s : State := { run with dist := { run.dist with speed := 27960 } }
    s.ListeningIn .running ∧ s.preview.active = true ∧
    ({ s with preview := { s.preview with active := false } } : State).preview.active = false ∧
    injectChecks s.preview ⟨1, 60000, 4, 0, 4⟩ = [true, true, false, true, true] ∧
    injectChecks s.preview ⟨15, 0, 3, 1, 5⟩ = [true, true, true, true, false] ∧
    injectChecks s.preview ⟨4, 419, 1, 0, 4⟩ = List.replicate 5 true ∧
    injectChecks s.preview ⟨5, 419, 1, 0, 4⟩ = List.replicate 5 true ∧
    (∀ c : Corner, (4 : Byte).getLsbD c.code.toNat = true → (s.sensing.get c).enabled = false) ∧
    (5 : Byte).getLsbD Corner.fl.code.toNat = true ∧ (5 : Byte).getLsbD Corner.rl.code.toNat = true ∧
    (∀ d : Corner, (1 : Byte).getLsbD d.code.toNat = decide (d = .fl)) ∧ (s.sensing.get .fl).enabled = true ∧
    s.queue.get .fl = [] ∧ s.context.get .fl = none ∧ s.preview.profile 4 = some steps ∧
    s.dist.speed * s.dist.leadTime / 1000 = 419 ∧ 419 < (420 : Half).toNat :=
  ⟨by decide, rfl, rfl, by decide, by decide, by decide, by decide, fun c => by cases c <;> decide, by decide, by decide,
    fun d => by cases d <;> decide, rfl, rfl, rfl, rfl, by decide, by decide⟩

theorem witness_ClearPreviewEmptiesCorners : run.Listening ∧ run.control.part = .running ∧ 1 ≤ (15 : Byte).toNat ∧
    (15 : Byte).toNat ≤ 15 ∧ (5 : Byte).getLsbD 1 = false ∧ (5 : Byte).getLsbD 2 = true := by decide

/-- The queues of 3.10: a merge, one with two existing entries of the highest class, an insertion, a drop and an eviction;
an offer that is dropped and ones that are not. -/
theorem witness_InsertionKeepsQueue : Spaced 150 499582 [id37, id39, id40] ∧ ahead 499582 id44 < 2 ^ 31 ∧
    [id37, id39, id40].filter (fun e => decide (ahead 499582 e ≤ ahead 499582 id44 + 150 ∧
      ahead 499582 id44 ≤ ahead 499582 e + 150)) = [id37, id39] ∧
    Spaced 150 499582 [{ id37 with cls := 2 }, id39, id40] ∧ ({ id37 with cls := 2 } : Entry).cls = id39.cls ∧
    [id40].filter (fun e => decide (ahead 499582 e ≤ ahead 499582 id44 + 150 ∧
      ahead 499582 id44 ≤ ahead 499582 e + 150)) = [] ∧
    Spaced 150 609000 full ∧ full.length = 8 ∧ (∃ e ∈ full, e.cls < id58.cls) ∧
    (∀ e ∈ full, ({ id58 with cls := 1 } : Entry).cls ≤ e.cls) ∧
    full.filter (fun e => decide (ahead 609000 e ≤ ahead 609000 id58 + 150 ∧
      ahead 609000 id58 ≤ ahead 609000 e + 150)) = [] ∧
    (insertEntry 150 { id58 with cls := 1 } full).outcome = .dropped ∧
    (insertEntry 150 id58 full).outcome ≠ .dropped ∧ (insertEntry 150 id58 []).outcome ≠ .dropped := by decide

/-- Each clause of the judgement: busy, latched, a test excitation in and out of Hold, Off without a target, Hold, 149 and
150 mA. -/
theorem witness_CoilTestJudged : cfg.Listening ∧ cfg.control.part = .configuring ∧ run.Listening ∧
    run.control.part = .running ∧ cfg.link.inflight.get .fl = none ∧
    (cfg.link.inflight.set .fl (some 7)).get .fl ≠ none ∧ (cfg.reg.get .fl).latched = false ∧
    ({ off with latched := true } : Regulator).latched = true ∧ (cfg.reg.get .fl).mode = .off ∧
    cfg.supply.band ≠ .hold ∧ ({ cfg.supply with band := .hold } : Supply).band = .hold ∧
    run.control.part ≠ .configuring ∧ (run.reg.get .fl).target = some 1010 ∧ (run.reg.get .fl).mode = .regulating ∧
    (run.reg.get .rr).mode = .off ∧ (run.reg.get .rr).target = none ∧ (run.reg.get .rr).latched = false ∧
    ({ run.reg.fl with target := some 149 } : Regulator).target = some 149 ∧ (149 : Nat) < 150 ∧ (150 : Nat) ≤ 150 ∧
    ({ off with mode := .hold, target := some 149 } : Regulator).mode = .hold := by decide

/-- RESETN low, Parked, 49 µs and 50 µs after an edge, a Faulted wheel, no geometry with DistanceLost clear and set, and the
geometry with DistanceLost clear and set. -/
theorem witness_WheelPulseTaken : (holdReset cfg).resetLow = true ∧ run.resetLow = false ∧
    parked.control.part = .parked ∧ ((49 : Stamp) - 0).toNat < 50 ∧
    50 ≤ ((50 : Stamp) - 0).toNat ∧ run.control.part ≠ .parked ∧ run.control.part ≠ .waking ∧
    run.dist.wheel.fl.lastEdge = none ∧ run.dist.wheel.fl.state ≠ .faulted ∧
    ({ run.dist.wheel.fl with state := .faulted, restore := 31 } : Wheel).state = .faulted ∧ cfg.dist.ring = none ∧
    cfg.dist.lost = false ∧ ({ cfg.dist with lost := true } : Distance).lost = true ∧ cfg.preview.active = false ∧
    run.dist.ring = some ⟨3050, 2150, 48⟩ ∧ run.dist.lost = false ∧
    ({ run.dist with lost := true } : Distance).lost = true ∧ ready.preview.active = false ∧
    run.queue = PerCorner.all [] ∧ (run.queue.set .fl [id37]).get .fl ≠ [] := by decide

/-- 19 and 20 pulses of the other wheel; speeds 0 with ReferenceSpeed 2000 and 1999; preview inactive and active; a changed
speed and an unchanged one; a queue with an entry. -/
theorem witness_SilenceJudgesWheel :
    let s : State := { run with
      dist := { run.dist with
        speed := 13997, wheel := ⟨{ run.dist.wheel.fl with speed := 27995 }, run.dist.wheel.fr⟩, referenceSpeed := 2000 },
      queue := run.queue.set .fl [id37] }
    cfg.dist.wheel.fl.silence = some 250000 ∧ cfg.dist.wheel.fr.state ≠ .faulted ∧
    20 ≤ ({ cfg.dist.wheel.fr with cross := 20 } : Wheel).cross ∧
    ¬ 20 ≤ ({ cfg.dist.wheel.fr with cross := 19 } : Wheel).cross ∧
    2000 ≤ s.dist.referenceSpeed ∧ ¬ 2000 ≤ (1999 : Nat) ∧ cfg.preview.active = false ∧ cfg.queue = PerCorner.all [] ∧
    s.preview.active = true ∧ s.dist.lost = false ∧ (s.dist.wheel.get .fl).silence = some 250000 ∧
    (s.dist.wheel.get .fr).speed = 0 ∧ (27995 + 0) / 2 = s.dist.speed ∧ (0 + 0) / 2 ≠ s.dist.speed ∧
    cfg.dist.speed = 0 ∧ s.queue.get .fl = [id37] := by decide

/-- DistanceLost at a silence expiry with preview active: the record, the flag, and the queues emptied (R16, R52). -/
theorem test_distanceLost_flushes : after (.silenceExpiry .fl) { run with
      dist := { run.dist with referenceSpeed := 2000 }, queue := run.queue.set .fl [id37] }
    (fun t => t.dist.lost && !t.preview.active && t.queue.fl.isEmpty &&
      t.link.events = [⟨.distanceLost, none, 0, 0, 2000, 1⟩]) = true := by decide

/-- The pothole of 4.8 at 1,207,969 exactly: step 0 ended, step 1 begun; one mm before; and the last step's end. An offer to
an Empty context, at its class and below it; entries 419 mm ahead and 420 mm ahead at a lead of 419. -/
theorem witness_StepsEndByDistance :
    let x : Context := ⟨4, steps, 0, 1207549, 3, 41, .compression, .detected, some .fl⟩
    let y : Context := { x with index := 4, start := 1208529 }
    let e (d : Odo) (cls : Nat) : Entry := entry 42 d cls 4 .injected none .compression
    (run.context.set .rl (some x)).get .rl = some x ∧ x.index < x.steps.length ∧
    x.steps.drop x.index = [⟨900, .set, 420⟩] ++ steps.drop 1 ∧ 420 ≤ ((1207969 : Odo) - x.start).toNat ∧
    ((1207969 : Odo) - x.start).toNat < 2 ^ 31 ∧ ((1207969 : Odo) - x.start).toNat < 420 + 250 ∧
    ((1207968 : Odo) - x.start).toNat < 0 + 420 ∧
    y.steps.drop y.index = [⟨400, .floor, 200⟩] ++ [] ∧ 200 ≤ ((1208729 : Odo) - y.start).toNat ∧
    run.preview.profile (e 419 3).profile = some steps ∧ run.context.get .rl = none ∧ x.cls ≤ (e 419 3).cls ∧
    (e 419 2).cls < x.cls ∧ 27960 * run.dist.leadTime / 1000 = 419 ∧
    signedDiff run.dist.odometer (e 419 3).arrival ≤ (419 : Nat) ∧
    ((419 : Nat) : Int) < signedDiff run.dist.odometer (e 420 3).arrival ∧
    (run.queue.set .rl [e 419 3, e 420 3]).get .rl = [e 419 3] ++ [e 420 3] := by decide

/-- A scan timer at an idle scan position and, as log 27 has it, within a scan. -/
theorem witness_TimersTakeNote : cfg.conv.timer = some 1000 ∧ cfg.conv.pos = .idle ∧
    ({ cfg.conv with pos := .vbat } : Converter).timer = some 1000 ∧
    ({ off with probeTimer := some 100000, recovery := some 10000000 } : Regulator).probeTimer = some 100000 ∧
    ({ off with probeTimer := some 100000, recovery := some 10000000 } : Regulator).recovery = some 10000000 := by decide

/-- On an empty queue a SCAN that is overdue waits for the conversions of the scan under way (log 27). -/
theorem test_scan_waits : dueCommands { waking with now := 1400 } = [.scan] ∧
    dueCommands { waking with now := 1400, conv := { waking.conv with pos := .vbat } } = [] := by decide

/-- FL Enabled at its channel: raw 200, 3895, 199 and 3896; four and five positions; bad runs of 1 and 2, good runs of 18 and
19; the guard Released and Engaged; FL not Enabled; a rear corner and a front one. -/
theorem witness_TravelSampleTaken :
    ({ ready.conv with pos := .travel .fl } : Converter).pos = .travel .fl ∧ (ready.sensing.get .fl).enabled = true ∧
    (ready.sensing.get .fl).scale = some (2048, 62) ∧ (cfg.sensing.get .fl).enabled = false ∧
    ready.control.part ≠ .waking ∧ 200 ≤ (200 : Count).toNat ∧ (3895 : Count).toNat ≤ 3895 ∧ (199 : Count).toNat < 200 ∧
    3895 < (3896 : Count).toNat ∧ appendPosition 5 [1, 2, 3, 4] = [1, 2, 3, 4, 5] ∧
    (appendPosition 4 [1, 2, 3]).length < 5 ∧ (ready.sensing.get .fl).faulted = false ∧ (1 : Nat) + 1 < 3 ∧
    3 ≤ (2 : Nat) + 1 ∧ (18 : Nat) + 1 < 20 ∧ 20 ≤ (19 : Nat) + 1 ∧ (ready.guard.get .fl).engaged = none ∧
    ({ ready.guard.fl with engaged := some .compression } : Guard).engaged ≠ none ∧
    ((Corner.rr = .rl) ∨ (Corner.rr = .rr)) ∧ Front.fr.corner = .fr ∧
    ({ ready.sensing.fl with faulted := true, good := 19 } : Sensing).history = [] ∧
    (appendPosition 5 ([] : List Int)).length < 5 := by decide

/-- The twentieth good sample after a SetCorner emptied the history ends the fault all the same (log 29). -/
theorem test_recovered_short : after (.travelConversion 2048) { ready with
      conv := { ready.conv with pos := .travel .fl },
      sensing := ready.sensing.set .fl { ready.sensing.fl with faulted := true, good := 19 } }
    (fun t => !t.sensing.fl.faulted && t.sensing.fl.history = [0] &&
      t.link.events = [⟨.sensorRecovered, some .fl, 0, 0, 2048, 1⟩]) = true := by decide

/-- The guard of 5.6 called at 812, not called at 150 mm/s; Released, Engaged on either side, its timer stopped and running;
outside Running. -/
theorem witness_GuardActs :
    let g : Guard := { Guard.reset with bumpBand := 800, reboundBand := 900, guardVel := 300 }
    let e : Guard := { g with engaged := some .compression, timer := some 31000 }
    g.calledBy 812 1300 = some .compression ∧ g.calledBy 800 300 = some .compression ∧
    g.calledBy (-900) (-300) = some .rebound ∧ g.calledBy 868 150 = none ∧ g.calledBy 799 300 = none ∧
    g.engaged = none ∧ e.engaged = some Dir.compression ∧ e.engaged = some Dir.rebound.opposite ∧ g.timer = none ∧
    e.timer ≠ none ∧ run.control.part = .running ∧ cfg.control.part ≠ .running ∧ cfg.control.part ≠ .failsafe ∧
    ({ g with timer := some 31000 } : Guard).engaged = none := by decide

/-- The window of 3.10: opened at 1100, followed at 650, closed at 480, with and without an entry to make; crossed to the
other side at -500; 299 mm and 300 mm long. -/
theorem witness_DetectorFollowsVelocity :
    let d : Detection := { Detection.reset with mapC3 := some 4 }
    let s : State := { run with
      dist := { run.dist with speed := 27960 }, sensing := run.sensing.set .rl { run.sensing.fl with enabled := true } }
    cfg.control.part ≠ .running ∧ s.control.part = .running ∧ s.window.get .fl = none ∧
    d.classOf .compression 600 = 1 ∧ d.classOf .compression 599 = 0 ∧ d.classOf .rebound 480 = 0 ∧
    (s.window.set .fl (some ⟨.compression, 3, 1204908⟩)).get .fl = some ⟨.compression, 3, 1204908⟩ ∧
    (d.tc1 : Int) - d.hysteresis ≤ 500 ∧ ¬ (d.tc1 : Int) - d.hysteresis ≤ 499 ∧ s.preview.active = true ∧
    s.dist.previewMinSpeed ≤ s.dist.speed ∧ (s.sensing.get Front.fl.rear).enabled = true ∧
    d.mapCell .compression 3 = some 4 ∧ d.mapCell .compression 2 = none ∧ s.dist.ring = some ⟨3050, 2150, 48⟩ ∧
    0 < d.classOf .rebound (-500) ∧ 0 < d.tc1 ∧ (d.windowMax : Int) ≤ signedDiff 1204908 1205208 ∧
    signedDiff 1204908 1205207 < d.windowMax := by decide

/-- Raw counts that keep Normal, enter Low, enter Hold and leave it, with a regulator in each kind of mode, and a pending
target with and without an apply time, with FixedLatency and without. -/
theorem witness_SupplyBandFollowsVbat :
    ({ run.conv with pos := .vbat } : Converter).pos = .vbat ∧ Band.normal.after (batteryVoltage 2355) = .normal ∧
    Band.normal.after (batteryVoltage 1535) = .low ∧ Band.normal.after (batteryVoltage 1023) = .hold ∧
    Band.hold.after (batteryVoltage 2355) = .normal ∧ run.supply.band = .normal ∧ (run.reg.get .fl).mode = .regulating ∧
    ({ run.reg.fl with slot := some ⟨950, some 43200⟩ } : Regulator).slot = some ⟨950, some 43200⟩ ∧
    ({ run.reg.fl with mode := .probe 1 0, slot := some ⟨950, none⟩ } : Regulator).slot = some ⟨950, none⟩ ∧
    ({ run.regulation with fixedLatency := true } : Regulation).fixedLatency = true ∧
    run.regulation.fixedLatency = false ∧ off.mode = .off ∧
    ({ off with mode := .test 3 0 .faulted } : Regulator).mode = .test 3 0 .faulted ∧
    ({ run.reg.fl with mode := .hold, duty := 0 } : Regulator).target = some 1010 := by decide

theorem witness_RegulatingExpiry : (run.reg.get .fl).mode = .regulating ∧ (run.reg.get .fl).period = some 500 ∧
    (run.reg.get .fl).target = some 1010 ∧ (1000 : Count).toNat ≤ 2500 ∧ (run.reg.get .fl).testWaiting = false ∧
    ({ run.reg.fl with testWaiting := true } : Regulator).testWaiting = true ∧ 150 ≤ 1010 := by decide

theorem witness_WaitingTestLowCurrent :
    let r : Regulator := { run.reg.fl with target := some 149, testWaiting := true }
    r.mode = .regulating ∧ r.period = some 500 ∧ r.target = some 149 ∧ (149 : Nat) < 150 ∧ r.testWaiting = true ∧
    (run.link.inflight.set .fl (some 7)).get .fl = some 7 ∧ (140 : Count).toNat ≤ 2500 ∧ r.openAfter 140 < 3 := by decide

/-- The last counts that do not end a probe or a test, and 2500 mA. -/
theorem witness_ExpiryByMode : (run.reg.get .fl).period = some 500 ∧ (2500 : Count).toNat ≤ 2500 ∧
    ({ off with mode := .kick 5 } : Regulator).mode = .kick 5 ∧ ({ off with mode := .quench 5 } : Regulator).mode = .quench 5 ∧
    ({ off with mode := .probe 2 0 } : Regulator).mode = .probe 2 0 ∧ (2 : Nat) < 3 ∧
    ({ off with mode := .test 14 0 .off } : Regulator).mode = .test 14 0 .off ∧ (14 : Nat) < 15 ∧ off.mode = .off ∧
    ({ off with mode := .faulted } : Regulator).mode = .faulted := by decide

/-- 2501 mA; 19 mA at duty 200 for the third time; inside and outside the recovery window; with and without a CoilTest. -/
theorem witness_FaultAtExpiry : (run.reg.get .fl).period = some 500 ∧ (run.reg.get .fl).mode ≠ .faulted ∧
    2500 < (2501 : Count).toNat ∧ (run.reg.get .fl).mode = .regulating ∧
    200 ≤ ({ run.reg.fl with duty := 200, openCount := 2 } : Regulator).duty ∧ (19 : Count).toNat < 20 ∧
    ({ run.reg.fl with duty := 200, openCount := 2 } : Regulator).openCount = 2 ∧ (run.reg.get .fl).recovery = none ∧
    ({ run.reg.fl with recovery := some 10000000 } : Regulator).recovery = some 10000000 ∧
    run.link.inflight.get .fl = none ∧ (run.link.inflight.set .fl (some 7)).get .fl = some 7 := by decide

/-- The probe of 7.10 at its end, an open coil and a shorted one; with a CoilTest that it serves, one that waits and none;
inside and outside the recovery window; its pending target ready and 1 µs ahead, at a kick and at none. -/
theorem witness_ProbeEnds :
    let r : Regulator := { run.reg.fl with mode := .probe 3 2714, target := some 890, duty := 283, trim := 6 }
    r.period = some 500 ∧ r.mode = .probe 3 2714 ∧ r.target = some 890 ∧ r.recovery = none ∧
    ({ r with recovery := some 10000000 } : Regulator).recovery = some 10000000 ∧ r.openAfter 906 < 3 ∧
    run.link.inflight.get .fl = none ∧ (run.link.inflight.set .fl (some 7)).get .fl = some 7 ∧
    ({ r with testWaiting := true } : Regulator).testWaiting = true ∧ r.testWaiting = false ∧
    (906 : Count).toNat ≤ 2500 ∧ r.slot = none ∧
    ({ r with slot := some ⟨1190, some 500⟩ } : Regulator).slot = some ⟨1190, some 500⟩ ∧
    (some 500 : Option Nat).getD 0 ≤ max run.now 500 ∧ ¬ (some 501 : Option Nat).getD 0 ≤ max run.now 500 ∧
    890 + run.regulation.kickStep ≤ 1190 ∧ ¬ 890 + run.regulation.kickStep ≤ 1189 ∧
    20 ≤ (2 * (2714 + 906) + 4) / 8 ∧ resistance r.duty 13800 905 = 4214 ∧ (2 * (0 + 79) + 4) / 8 = 20 ∧
    (2 * (0 + 77) + 4) / 8 = 19 ∧ resistance r.duty 13800 19 > 20000 := by decide

/-- A test excitation at its last expiry, returning to Off and to Faulted, with a sound coil, an open one and one out of the
window; with and without a CoilTest; inside and outside the recovery window; outside Running, in Running, and in Running on
Hold. -/
theorem witness_TestEnds :
    let r (ret : ReturnMode) : Regulator := { Regulator.reset 0 with mode := .test 15 1350 ret }
    (r .off).period = some 500 ∧ cfg.link.inflight.get .fl = none ∧ (cfg.link.inflight.set .fl (some 7)).get .fl = some 7 ∧
    (450 : Count).toNat ≤ 2500 ∧ (r .off).recovery = none ∧
    ({ r .faulted with recovery := some 10000000 } : Regulator).recovery = some 10000000 ∧
    (r .faulted).mode = .test 15 1350 .faulted ∧ meanOfFour (1350 + 450) = 450 ∧
    outOfWindow (resistance 160 13800 450) = false ∧ outOfWindow (resistance 160 13800 20) = true ∧
    meanOfFour (77 + 0) = 19 ∧ cfg.driving = false ∧ run.driving = true ∧ (run.sensing.get .fl).enabled = true ∧
    (run.sensing.get .rr).enabled = false ∧
    run.supply.band ≠ .hold ∧ ({ run.supply with band := .hold } : Supply).band = .hold ∧
    ({ r .faulted with target := some 1010 } : Regulator).target = some 1010 ∧
    (0 < Regulation.reset.kickStep ∧ 0 < Regulation.reset.kickTime ∧ Regulation.reset.kickStep ≤ 1010) ∧
    ¬ Regulation.reset.kickStep ≤ 299 := by decide

/-- A recovered regulator that starts no kick keeps the duty of the excitation until its next expiry (log 9). -/
theorem test_recovery_keeps_duty : after (.periodExpiry .fl 450)
    (withReg { run.reg.fl with mode := .test 15 1350 .faulted, duty := 160, target := some 299 } run)
    (fun t => t.reg.fl.mode = .regulating && t.reg.fl.duty = 160) = true := by decide

/-- An event like the newest; one unlike it at 15 and at 16 records. -/
theorem witness_EventQueueTakesRecord :
    let n : Event := ⟨.guardEngaged, some .fl, 0, 0, 812, 255⟩
    ([] ++ [n] = [n] ∧ n.kind = .guardEngaged ∧ n.corner = some .fl ∧ n.detail1 = 0 ∧ n.detail2 = 0) ∧
    (List.replicate 15 n).length < 16 ∧ 16 ≤ (List.replicate 16 n).length ∧ n.detail1 ≠ 1 := by decide

theorem run_linkSound : run.link.Sound := by decide

theorem witness_StepsKeepLinkSound : run.link.Sound ∧ (∃ t, step { run with pending := [.nop] } = .next t) :=
  ⟨run_linkSound, _, rfl⟩

theorem witness_StepsKeepRegulatorsSound : (∀ c, (run.reg.get c).Sound) ∧
    (∃ t, step { run with pending := [.periodExpiry .fl 1000] } = .next t) := by
  refine ⟨?_, _, rfl⟩
  intro c; cases c <;> refine ⟨?_, ?_, ?_, ?_, ?_, ?_, ?_, ?_⟩ <;> decide

theorem run_timersSound : run.TimersSound := by
  refine ⟨by decide, by decide, by decide, by decide, by decide, by decide, ?_, ?_, by decide⟩
  · intro c; cases c <;> decide
  · intro f; cases f <;> decide

theorem witness_StepsKeepPreviewSound : run.TimersSound ∧ run.PreviewSound ∧ run.QueuesBounded ∧
    (∃ t, step { run with pending := [.scan] } = .next t) := by
  refine ⟨run_timersSound, ⟨rfl, ?_, ?_⟩, ?_, _, rfl⟩
  · intro h; cases h
  · intro h; exact absurd rfl h
  · intro c; cases c <;> decide

theorem witness_StepsKeepTimersSound : parked.TimersSound ∧ (holdReset cfg).TimersSound ∧
    (∃ t, step { parked with pending := [.transactionBegin] } = .next t) := by
  refine ⟨⟨by decide, by decide, by decide, by decide, by decide, by decide, ?_, ?_, by decide⟩,
    ⟨by decide, by decide, by decide, by decide, by decide, by decide, ?_, ?_, by decide⟩, _, rfl⟩
  all_goals intro c; cases c <;> decide

theorem witness_StepsKeepArbitersSound : run.TimersSound ∧ run.ArbitersSound ∧ failsafe.ArbitersSound ∧
    (∃ t, step { run with pending := [.halt 3] } = .next t) := by
  refine ⟨run_timersSound, ?_, ?_, _, rfl⟩ <;> intro c <;> cases c <;> decide

end Sys2Proof.Tests
end

/-! PROOF. The current curves of chapter 6: what a demand maps to, and which records SetCurve takes. -/

namespace Sys2Proof.Machine

/-! ### Rounded shares of a step -/

theorem roundHalfAway_natCast (n b : Nat) : roundHalfAway (n : Int) b = roundHalfUp n b := by
  simp [roundHalfAway]

/-- Rounding away from zero is symmetric. -/
theorem roundHalfAway_neg_natCast (n : Nat) {b : Nat} (hb : 0 < b) :
    roundHalfAway (-(n : Int)) b = -(roundHalfUp n b) := by
  cases n with
  | zero => simp [roundHalfAway, roundHalfUp, Nat.div_eq_of_lt (show b < 2 * b by omega)]
  | succ n => rw [roundHalfAway, if_neg (by omega), Int.natAbs_neg, Int.natAbs_natCast]

/-- The whole of a step is the step itself. -/
theorem roundHalfAway_whole (a : Int) : roundHalfAway (a * 100) 100 = a := by
  unfold roundHalfAway roundHalfUp; split <;> omega

theorem roundHalfUp_mono {a a' : Nat} (h : a ≤ a') (b : Nat) : roundHalfUp a b ≤ roundHalfUp a' b :=
  Nat.div_le_div_right (by omega)

/-- A share of a step is at most the step. -/
theorem roundHalfUp_share_le (step : Nat) {f : Nat} (hf : f ≤ 100) : roundHalfUp (step * f) 100 ≤ step := by
  have : step * f ≤ step * 100 := Nat.mul_le_mul_left step hf
  unfold roundHalfUp; omega

/-! ### The current of a demand -/

/-- Both ends of a segment belong to it: the formula of R94 with any k and f of the demand, f = 100 included. -/
theorem mapCurrent_segment (curve : Vector Nat 11) {k f : Nat} (hk : k ≤ 9) (hf : f ≤ 100) :
    mapCurrent curve (100 * k + f) =
      (curvePoint curve k + roundHalfAway ((curvePoint curve (k + 1) - curvePoint curve k) * f) 100).toNat := by
  by_cases own : f < 100 ∨ k = 9
  · have segment : min ((100 * k + f) / 100) 9 = k := by omega
    simp [mapCurrent, segment]
  · obtain rfl : f = 100 := by omega
    have following : min ((100 * k + 100) / 100) 9 = k + 1 := by omega
    have start : 100 * k + 100 - 100 * (k + 1) = 0 := by omega
    simp only [mapCurrent, following, start, Nat.cast_ofNat, roundHalfAway_whole, Nat.cast_zero, Int.mul_zero]
    congr 1; simp [roundHalfAway, roundHalfUp]

section Segment
variable {curve : Vector Nat 11} {k f p q : Nat} (hp : curve.toList.getD k 0 = p) (hq : curve.toList.getD (k + 1) 0 = q)
  (hk : k ≤ 9)
include hp hq hk

/-- On a segment that does not fall the share of the step is added. -/
theorem mapCurrent_rising (hf : f ≤ 100) (h : p ≤ q) :
    mapCurrent curve (100 * k + f) = p + roundHalfUp ((q - p) * f) 100 := by
  have share : ((q : Int) - p) * f = ((q - p) * f : Nat) := by push_cast [h]; rfl
  rw [mapCurrent_segment curve hk hf, curvePoint, curvePoint, hp, hq, share, roundHalfAway_natCast]
  omega

/-- On a segment that does not rise the share of the step is taken away. -/
theorem mapCurrent_falling (hf : f ≤ 100) (h : q ≤ p) :
    mapCurrent curve (100 * k + f) = p - roundHalfUp ((p - q) * f) 100 := by
  have share : ((q : Int) - p) * f = -((p - q) * f : Nat) := by push_cast [h]; ring
  rw [mapCurrent_segment curve hk hf, curvePoint, curvePoint, hp, hq, share, roundHalfAway_neg_natCast _ (by decide)]
  omega

theorem mapCurrent_succ_ge (hf : f < 100) (h : p ≤ q) :
    mapCurrent curve (100 * k + f) ≤ mapCurrent curve (100 * k + f + 1) := by
  rw [Nat.add_assoc, mapCurrent_rising hp hq hk hf.le h, mapCurrent_rising hp hq hk hf h]
  exact Nat.add_le_add_left (roundHalfUp_mono (Nat.mul_le_mul_left _ (Nat.le_succ f)) _) p

theorem mapCurrent_succ_le (hf : f < 100) (h : q ≤ p) :
    mapCurrent curve (100 * k + f + 1) ≤ mapCurrent curve (100 * k + f) := by
  rw [Nat.add_assoc, mapCurrent_falling hp hq hk hf.le h, mapCurrent_falling hp hq hk hf h]
  exact Nat.sub_le_sub_left (roundHalfUp_mono (Nat.mul_le_mul_left _ (Nat.le_succ f)) _) p

end Segment

/-- A demand that is a multiple of 100 has its own point. -/
theorem mapCurrent_point (curve : Vector Nat 11) {k : Nat} (hk : k ≤ 10) :
    mapCurrent curve (100 * k) = curve.toList.getD k 0 := by
  rcases Nat.lt_or_ge 9 k with h | h
  · obtain rfl : k = 10 := by omega
    rw [show 100 * 10 = 100 * 9 + 100 from rfl, mapCurrent_segment curve le_rfl le_rfl, Nat.cast_ofNat,
      roundHalfAway_whole]
    simp [curvePoint]
  · simpa [curvePoint, roundHalfAway, roundHalfUp] using mapCurrent_segment curve h (Nat.zero_le 100)

/-- Neighbouring points of a curve are ordered as the whole curve is. -/
theorem curve_neighbours {R : Nat → Nat → Prop} {curve : Vector Nat 11} (h : curve.toList.Pairwise R) {k : Nat}
    (hk : k ≤ 9) : R (curve.toList.getD k 0) (curve.toList.getD (k + 1) 0) := by
  have hlen : curve.toList.length = 11 := Vector.length_toList
  rw [← List.getElem_eq_getD (h := by omega) 0, ← List.getElem_eq_getD (h := by omega) 0]
  exact List.pairwise_iff_getElem.1 h k (k + 1) _ _ k.lt_succ_self

/-- Over a curve that never falls, currents never fall: each step of 1 in the demand stays in one segment. -/
theorem mapCurrent_monotoneOn {curve : Vector Nat 11} (h : curve.toList.Pairwise (· ≤ ·)) :
    MonotoneOn (mapCurrent curve) (Set.Iic 1000) := by
  refine monotoneOn_of_le_add_one Set.ordConnected_Iic fun D _ _ hD => ?_
  have inside : D / 100 ≤ 9 := by have := Set.mem_Iic.1 hD; omega
  have := mapCurrent_succ_ge rfl rfl inside (Nat.mod_lt D (by decide)) (curve_neighbours h inside)
  rwa [Nat.div_add_mod] at this

theorem mapCurrent_antitoneOn {curve : Vector Nat 11} (h : curve.toList.Pairwise (· ≥ ·)) :
    AntitoneOn (mapCurrent curve) (Set.Iic 1000) := by
  refine antitoneOn_of_add_one_le Set.ordConnected_Iic fun D _ _ hD => ?_
  have inside : D / 100 ≤ 9 := by have := Set.mem_Iic.1 hD; omega
  have := mapCurrent_succ_le rfl rfl inside (Nat.mod_lt D (by decide)) (curve_neighbours h inside)
  rwa [Nat.div_add_mod] at this

/-- Settles O31: the two forms of the segment formula, and monotonicity from one demand to the next. -/
theorem curveMapsDemand : Obligations.CurveMapsDemand := by
  rintro curve P rfl
  beta_reduce
  refine ⟨fun k hk => mapCurrent_point curve hk, fun k f hk hf =>
    ⟨fun h => ?_, fun h => ?_⟩, fun D E hDE hE => ?_⟩
  · have current := mapCurrent_rising rfl rfl hk hf h
    have share := roundHalfUp_share_le (curve.toList.getD (k + 1) 0 - curve.toList.getD k 0) hf
    exact ⟨current, by omega, by omega⟩
  · have current := mapCurrent_falling rfl rfl hk hf h
    have share := roundHalfUp_share_le (curve.toList.getD k 0 - curve.toList.getD (k + 1) 0) hf
    exact ⟨current, by omega, by omega⟩
  · have hD : D ∈ Set.Iic 1000 := Set.mem_Iic.2 (hDE.trans hE)
    exact ⟨fun h => mapCurrent_monotoneOn h hD hE hDE, fun h => mapCurrent_antitoneOn h hD hE hDE⟩

/-! ### The monotonicity test of SetCurve -/

/-- Points that never turn back, the sense so far given: 0 leaves both ways free, and any other only its own. -/
def KeepsSense (sense : Int) (l : List Int) : Prop :=
  (0 ≤ sense ∧ l.Pairwise (· ≤ ·)) ∨ (sense ≤ 0 ∧ l.Pairwise (· ≥ ·))

theorem keepsSense_of_length_le_one (sense : Int) {l : List Int} (h : l.length ≤ 1) : KeepsSense sense l := by
  match l, h with
  | [], _ => simp [KeepsSense, Int.le_total]
  | [a], _ => simp [KeepsSense, Int.le_total]

/-- One step of R92: the first step agrees with the sense so far, and the rest keeps the sense it leaves. -/
theorem keepsSense_cons_cons (sense a b : Int) (l : List Int) : KeepsSense sense (a :: b :: l) ↔
    ¬ sense * (b - a) < 0 ∧ KeepsSense (if sense = 0 then b - a else sense) (b :: l) := by
  simp only [KeepsSense, ← List.isChain_iff_pairwise, List.isChain_cons_cons]
  rcases lt_trichotomy sense 0 with h | rfl | h
  · have step : sense * (b - a) < 0 ↔ a < b := by rw [mul_neg_iff]; omega
    grind
  · grind
  · have step : sense * (b - a) < 0 ↔ b < a := by rw [mul_neg_iff]; omega
    grind

theorem turnsBack_eq_none {sense : Int} {k : Nat} {l : List Int} (h : KeepsSense sense l) :
    turnsBack sense k l = none := by
  induction sense, k, l using turnsBack.induct with
  | case1 => rfl
  | case2 => rfl
  | case3 sense k a b rest turn => exact absurd turn ((keepsSense_cons_cons ..).1 h).1
  | case4 sense k a b rest keep ih => rw [turnsBack, if_neg keep, ih ((keepsSense_cons_cons ..).1 h).2]

/-- When the first n points keep the sense and the next one does not, that one is named; the numbering starts at k. -/
theorem turnsBack_eq_some {sense : Int} {k n m : Nat} {l : List Int} (hm : m + 1 = k + n)
    (h : KeepsSense sense (l.take n)) (h' : ¬ KeepsSense sense (l.take (n + 1))) : turnsBack sense k l = some m := by
  obtain _ | n := n
  · exact absurd (keepsSense_of_length_le_one _ (List.length_take_le 1 l)) h'
  induction sense, k, l using turnsBack.induct generalizing n with
  | case1 => exact absurd (keepsSense_of_length_le_one _ (by simp)) h'
  | case2 => exact absurd (keepsSense_of_length_le_one _ (by simp)) h'
  | case3 sense k a b rest turn =>
    obtain _ | n := n
    · rw [turnsBack, if_pos turn]; congr 1; omega
    · exact absurd turn ((keepsSense_cons_cons ..).1 h).1
  | case4 sense k a b rest keep ih =>
    rw [List.take_succ_cons, List.take_succ_cons, keepsSense_cons_cons, not_and] at h'
    rw [turnsBack, if_neg keep]
    obtain _ | n := n
    · exact absurd (keepsSense_of_length_le_one _ (by simp)) (h' keep)
    · exact ih n (by omega) ((keepsSense_cons_cons ..).1 h).2 (h' keep)

/-- With no sense yet, points keep it when they never fall or never rise. -/
theorem keepsSense_zero_natCast (l : List Nat) :
    KeepsSense 0 (l.map (Nat.cast : Nat → Int)) ↔ l.Pairwise (· ≤ ·) ∨ l.Pairwise (· ≥ ·) := by
  simp [KeepsSense, List.pairwise_map]

/-! ### SetCurve -/

theorem curveTurn_eq (r : CurveRecord) :
    curveTurn r = turnsBack 0 1 ((r.points.toList.map (·.toNat)).map (Nat.cast : Nat → Int)) := by
  rw [List.map_map]; rfl

/-- The checks of SetCurve are the ranges of its fields. -/
theorem curveChecks_eq (r : CurveRecord) : curveChecks r = rangeChecks (Request.setCurve r).ranges := by
  simp [curveChecks, rangeChecks, Request.ranges, isCorner, Corner.ofCode_isSome, inRange]

section Inside
variable {c : Corner} {r : CurveRecord} (hc : r.corner = c.code) (hr : AllInside (Request.setCurve r).ranges)
  (tag : Byte) (s : State)
include hc hr

theorem takeSetCurve_oneWay (h : curveTurn r = none) : takeSetCurve tag r s =
    reply tag 0x12 .ok [] (s.setMapper c { s.mapper.get c with curve := some (r.points.map (·.toNat)) }) := by
  rw [takeSetCurve, curveChecks_eq, firstBad_ranges_none _ hr, hc, Corner.ofCode_code, h, curveCurrents_eq]

theorem takeSetCurve_turning {k : Nat} (h : curveTurn r = some k) :
    takeSetCurve tag r s = reply tag 0x12 .badCurve [byteOf k] s := by
  rw [takeSetCurve, curveChecks_eq, firstBad_ranges_none _ hr, hc, Corner.ofCode_code, h]

end Inside

/-- Settles O23: the request reaches its owning block, and the monotonicity test decides which answer it gives. -/
theorem curveWritten : Obligations.CurveWritten := by
  rintro tag c r s oneWay ⟨listening, configuring⟩ hc hr rfl
  have taken : exec (.setCurve tag r) s = .next (takeSetCurve tag r s) :=
    exec_command_passed tag (.setCurve r) s listening (by rw [configuring]; rfl) rfl
  rw [taken]
  beta_reduce
  refine ⟨fun h => ?_, fun k h h' => ?_⟩
  · have turn : curveTurn r = none := by
      rw [curveTurn_eq, turnsBack_eq_none ((keepsSense_zero_natCast _).2 h)]
    rw [takeSetCurve_oneWay hc hr tag s turn]; rfl
  · have turn : curveTurn r = some k := by
      rw [← keepsSense_zero_natCast, List.map_take] at h h'
      rw [curveTurn_eq, turnsBack_eq_some (Nat.add_comm k 1) h h']
    rw [takeSetCurve_turning hc hr tag s turn]; rfl

end Sys2Proof.Machine

/-! PROOF. The targets of chapter 7: how a regulator takes a target the mapper hands it. -/

namespace Sys2Proof.Machine

/-! ### The kick-or-quench test -/

/-- The test of R111 with the step from `old` read without a sign. -/
theorem kickOrQuench_eq (g : Regulation) (old new : Nat) (r : Regulator) : kickOrQuench g old new r =
    if 0 < g.kickStep ∧ 0 < g.kickTime ∧ old + g.kickStep ≤ new then
      { r with target := some new, mode := .kick 0, duty := 1023 }
    else if 0 < g.quenchStep ∧ 0 < g.quenchTime ∧ new + g.quenchStep ≤ old then
      { r with target := some new, mode := .quench 0, duty := 0, openCount := 0 }
    else { r with target := some new, mode := .regulating } := by
  have kick : (g.kickStep : Int) ≤ (new : Int) - old ↔ old + g.kickStep ≤ new := by omega
  have quench : (new : Int) - old ≤ -(g.quenchStep : Int) ↔ new + g.quenchStep ≤ old := by omega
  simp only [kickOrQuench, kick, quench]

theorem Regulator.targetNow_of_target {r : Regulator} {old : Nat} (h : r.target = some old) : r.targetNow = old := by
  rw [Regulator.targetNow, h, Option.getD_some]

/-! ### The pending slot -/

/-- An empty slot takes the apply time given. -/
theorem placePending_empty {r : Regulator} (h : r.slot = none) (applyAt : Option Nat) (new : Nat) :
    placePending applyAt new r = { r with slot := some ⟨new, applyAt⟩ } := by
  rw [placePending, h]

/-- A full slot keeps its own apply time. -/
theorem placePending_full {r : Regulator} {p : Pending} (h : r.slot = some p) (applyAt : Option Nat) (new : Nat) :
    placePending applyAt new r = { r with slot := some ⟨new, p.applyAt⟩ } := by
  rw [placePending, h]

/-! ### A handed target by mode (R110) -/

section ByMode
variable {g : Regulation} {r : Regulator} (now new : Nat)

/-- Modes that regulate no current only store the target; so does Hold without FixedLatency. -/
theorem takeTarget_stored (h : r.mode = .off ∨ r.mode = .faulted ∨ (∃ n sum ret, r.mode = .test n sum ret) ∨
    (r.mode = .hold ∧ g.fixedLatency = false)) : takeTarget g now new r = { r with target := some new } := by
  obtain off | faulted | ⟨n, sum, ret, test⟩ | ⟨hold, free⟩ := h
  · simp only [takeTarget, off]
  · simp only [takeTarget, faulted]
  · simp only [takeTarget, test]
  · simp [takeTarget, hold, free]

/-- In Probe the target waits in the slot, with an apply time under FixedLatency only. -/
theorem takeTarget_probe {n sum : Nat} (h : r.mode = .probe n sum) :
    takeTarget g now new r = placePending (if g.fixedLatency then some (now + 2000) else none) new r := by
  simp only [takeTarget, h, latencyTime]

/-- Under FixedLatency every mode that regulates or holds lets the target wait for its apply time. -/
theorem takeTarget_latent (fixed : g.fixedLatency = true) (h : r.mode = .regulating ∨ (∃ n, r.mode = .kick n) ∨
    (∃ n, r.mode = .quench n) ∨ r.mode = .hold) :
    takeTarget g now new r = placePending (if g.fixedLatency then some (now + 2000) else none) new r := by
  obtain mode | ⟨n, mode⟩ | ⟨n, mode⟩ | mode := h <;> simp [takeTarget, mode, fixed, latencyTime]

variable (free : g.fixedLatency = false)
include free

theorem takeTarget_regulating (h : r.mode = .regulating) :
    takeTarget g now new r = kickOrQuench g r.targetNow new r := by
  simp [takeTarget, h, free]

/-- A Kick goes on while the target does not fall (R116). -/
theorem takeTarget_kick {n : Nat} (h : r.mode = .kick n) : takeTarget g now new r =
    if r.targetNow ≤ new then { r with target := some new } else kickOrQuench g r.targetNow new r := by
  simp [takeTarget, h, free, applyInKick]

/-- A Quench goes on while the target does not rise (R117). -/
theorem takeTarget_quench {n : Nat} (h : r.mode = .quench n) : takeTarget g now new r =
    if new ≤ r.targetNow then { r with target := some new } else kickOrQuench g r.targetNow new r := by
  simp [takeTarget, h, free, applyInQuench]

end ByMode

/-- Settles O32: by the mode the target is stored, waits in the slot, or goes through the kick-or-quench test. -/
theorem targetTakenByMode : Obligations.TargetTakenByMode := by
  intro g now new r
  refine ⟨takeTarget_stored now new, fun waits => ?_, fun old test held free isTest => ?_⟩
  · have placed : takeTarget g now new r =
        placePending (if g.fixedLatency then some (now + 2000) else none) new r := by
      obtain ⟨n, sum, probe⟩ | ⟨fixed, mode⟩ := waits
      · exact takeTarget_probe now new probe
      · exact takeTarget_latent now new fixed mode
    rw [placed]
    cases slot : r.slot with
    | none => rw [placePending_empty slot]
    | some p => rw [placePending_full slot]
  · have tested : kickOrQuench g r.targetNow new r = test := by
      rw [isTest, kickOrQuench_eq, Regulator.targetNow_of_target held]
    refine ⟨fun mode => ?_, fun ⟨n, mode⟩ => ?_, fun ⟨n, mode⟩ => ?_⟩
    · rw [takeTarget_regulating now new free mode, tested]
    · rw [takeTarget_kick now new free mode, tested, Regulator.targetNow_of_target held]
    · rw [takeTarget_quench now new free mode, tested, Regulator.targetNow_of_target held]

end Sys2Proof.Machine

/-! PROOF. The part states of chapter 9: the state test of every request, and the return to Running by Resume. -/

namespace Sys2Proof.Machine

/-! ### The state test (R151) -/

/-- The table of R151 by request kind: the status with which a part state refuses it, none when it is taken. -/
def refusalTable (kind : Byte) : PartState → Option Status
  | .starting => if kind ∈ [0x01, 0x04] then none else some .notReady
  | .waking => if kind ∈ [0x01, 0x04] then none else some .notReady
  | .configuring => if kind ∈ [0x31, 0x32, 0x33, 0x42] then some .wrongState else none
  | .running =>
    if kind ∈ [0x10, 0x11, 0x12, 0x13, 0x14, 0x30, 0x33, 0x34, 0x35] then some .wrongState else none
  | .failsafe => if kind ∈ [0x10, 0x11, 0x12, 0x13, 0x14, 0x30, 0x32, 0x42] then some .wrongState else none
  | .parked => if kind ∈ [0x01, 0x02, 0x04, 0x35] then none else some .wrongState

/-- The state test looks at a request's kind only, never at its values. -/
theorem stateTest_eq_refusalTable (r : Request) (p : PartState) : stateTest r p = refusalTable r.kind p := by
  cases r <;> cases p <;> rfl

/-- A request of allowed length that fails the state test is answered with the test's status alone. -/
theorem judgeRequest_refused (tag : Byte) (r : Request) (s : State) {status : Status}
    (hs : stateTest r s.control.part = some status) (hl : r.lengthAllowed = true) :
    judgeRequest tag r s = reply tag r.kind status [] s := by
  simp [judgeRequest, hs, hl]

/-- A request that is judged at once and fails the state test. -/
theorem exec_command_refused (tag : Byte) (r : Request) (s : State) {status : Status} (h : s.Listening)
    (hs : stateTest r s.control.part = some status) (hl : r.lengthAllowed = true) :
    exec (r.command tag) s = .next (reply tag r.kind status [] s) := by
  rw [exec_command, arrive_listening _ _ _ h, judgeRequest_refused _ _ _ hs hl]

/-- Settles O13: the state test is the table, and by its entry the request is refused or reaches its owning block. -/
theorem stateTestTable : Obligations.StateTestTable := by
  intro tag r s refusal listening allowed entry
  have test : stateTest r s.control.part = refusal := by
    rw [entry]; exact stateTest_eq_refusalTable r s.control.part
  cases refusal with
  | none => exact exec_command_passed tag r s listening test allowed
  | some status => exact exec_command_refused tag r s listening test allowed

/-! ### The failsafe form handed to the arbiters (R78, R79) -/

/-- An arbiter handed the failsafe form: an Active one resolves anew, an Idle one is kept. -/
def Arbiter.handedFailsafe (f : Option Nat) (a : Arbiter) : Arbiter :=
  let b : Arbiter := { a with failsafe := f }
  if b.active then { b with level := some b.winner.1, resolved := b.winner.2 } else a

/-- A corner's mapper and regulator after its arbiter is handed the failsafe form. -/
def failsafeOutputs (g : Regulation) (now : Nat) (f : Option Nat) (a : Arbiter) (p : Mapper × Regulator) :
    Mapper × Regulator :=
  if a.active then handOn g now a.resolved ({ a with failsafe := f } : Arbiter).winner.2 p else p

/-- Everything the failsafe form's hand-over does at its corner. -/
theorem handFailsafe_eq (c : Corner) (f : Option Nat) (s : State) : handFailsafe c f s = { s with
    arbiter := s.arbiter.set c ((s.arbiter.get c).handedFailsafe f),
    mapper := s.mapper.set c (failsafeOutputs s.regulation s.now f (s.arbiter.get c) (s.outputs c)).1,
    reg := s.reg.set c (failsafeOutputs s.regulation s.now f (s.arbiter.get c) (s.outputs c)).2 } := by
  by_cases active : (s.arbiter.get c).active
  · have outputs := resolve_outputs c (s.setArbiter c { s.arbiter.get c with failsafe := f })
    obtain ⟨m, r, -, frame⟩ := resolve_set_frame c { s.arbiter.get c with failsafe := f } s
    have handed : (m, r) = failsafeOutputs s.regulation s.now f (s.arbiter.get c) (s.outputs c) := by
      rw [frame] at outputs
      simpa [failsafeOutputs, active, State.outputs] using outputs
    have settled : ({ s.arbiter.get c with failsafe := f } : Arbiter).settled = (s.arbiter.get c).handedFailsafe f := by
      simp [Arbiter.settled, Arbiter.handedFailsafe, active]
    rw [handFailsafe, if_pos active, frame, ← handed, settled]
  · simp [handFailsafe, Arbiter.handedFailsafe, failsafeOutputs, active, State.outputs]

/-- The failsafe form handed at every corner: each hand-over reads and changes its own corner only. -/
theorem handFailsafe_all (f : Option Nat) (s : State) :
    Corner.list.foldl (fun t c => handFailsafe c f t) s = { s with
      arbiter := s.arbiter.mapIdx fun _ a => a.handedFailsafe f,
      mapper := s.mapper.mapIdx fun c _ =>
        (failsafeOutputs s.regulation s.now f (s.arbiter.get c) (s.outputs c)).1,
      reg := s.reg.mapIdx fun c _ =>
        (failsafeOutputs s.regulation s.now f (s.arbiter.get c) (s.outputs c)).2 } := by
  simp only [Corner.list, List.foldl, handFailsafe_eq]
  rfl

/-! ### Resume (R160) -/

/-- A preview flag that is false is judged without a flush. -/
theorem judgePreview_of_inactive {s : State} (h : s.preview.active = false) :
    judgePreview s = { s with preview := { s.preview with active := previewCondition s } } := by
  simp [judgePreview, h, State.setPreview]

/-- A Tag as the value of a record (R150). -/
theorem value16_byte (b : Byte) : value16 b.toNat = b.setWidth 16 := by
  have small : min b.toNat 65535 = b.toNat := by omega
  rw [value16, small, BitVec.ofNat_toNat]

/-- The return to Running from a state whose preview flag is false. -/
theorem resumeRunning_eq (tag : Byte) {s : State} (h : s.preview.active = false) : resumeRunning tag s = { s with
    control := { s.control with part := .running, cause := none },
    preview := { s.preview with active := decide (s.dist.direction = .forward) && !s.dist.lost },
    arbiter := s.arbiter.mapIdx fun _ a => a.handedFailsafe none,
    mapper := s.mapper.mapIdx fun c _ =>
      (failsafeOutputs s.regulation s.now none (s.arbiter.get c) (s.outputs c)).1,
    reg := s.reg.mapIdx fun c _ =>
      (failsafeOutputs s.regulation s.now none (s.arbiter.get c) (s.outputs c)).2,
    link := s.link.record ⟨.stateChanged, none, 2, 5, tag.setWidth 16, 1⟩ } := by
  rw [resumeRunning, handFailsafe_all, judgePreview_of_inactive, ← value16_byte]
  · rfl
  · exact h

/-- Outside Running a sound preview flag is false. -/
theorem State.PreviewSound.inactive {s : State} (h : s.PreviewSound) (outside : s.control.part ≠ .running) :
    s.preview.active = false := by
  obtain ⟨judged, -, -⟩ := h
  simp [judged, previewCondition, outside]

/-- Settles O28: the demand timer decides between the refusal and the return to Running, whose hand-overs are read
corner by corner. -/
theorem resumeNeedsDemand : Obligations.ResumeNeedsDemand := by
  rintro tag s ⟨listening, failsafe⟩
  have taken : exec (.resume tag) s = .next (takeResume tag s) :=
    exec_command_passed tag .resume s listening (by rw [failsafe]; rfl) rfl
  rw [taken]
  refine ⟨fun stopped => ?_, fun running sound => ⟨_, rfl, ?_⟩⟩
  · simp [takeResume, stopped, reply_eq]
  · have inactive : s.preview.active = false := sound.inactive (by simp [failsafe])
    rw [takeResume, if_pos (Option.isSome_iff_ne_none.2 running), reply_eq, resumeRunning_eq tag inactive]
    refine ⟨rfl, rfl, ?_, ?_, rfl⟩
    · rintro k a rfl
      exact ⟨PerCorner.get_mapIdx .., Prod.ext (PerCorner.get_mapIdx ..) (PerCorner.get_mapIdx ..)⟩
    · simp only [LinkState.record_replies]; rfl

end Sys2Proof.Machine

/-! PROOF. The control link and its records (chapter 10): Identify and ReadEvents. -/

namespace Sys2Proof.Machine

/-- The Summary's three parts at their places (R183). -/
theorem summary_eq (s : State) : summary s = BitVec.ofNat 8 ((if s.link.overflow then 128 else 0) +
    16 * s.control.part.code.toNat + min 15 s.link.events.length) := rfl

/-! ### Identify (R181) -/

/-- Settles O14: no part state refuses Identify, and its reply is the only thing it leaves. -/
theorem identifyAnswersAtOnce : Obligations.IdentifyAnswersAtOnce := by
  intro tag s listening
  have admitted : stateTest .identify s.control.part = none := rfl
  have taken : exec (.identify tag) s = .next (takeIdentify tag s) :=
    exec_command_passed tag .identify s listening admitted rfl
  rw [taken, takeIdentify, reply_eq, summary_eq]
  rfl

/-! ### ReadEvents (R180) -/

theorem byteInRange_eq_true {lo hi : Nat} {b : Byte} : byteInRange lo hi b = true ↔ lo ≤ b.toNat ∧ b.toNat ≤ hi := by
  simp [byteInRange]

/-- The seven bytes of an event record, 0xFF standing for no corner (10.11). -/
theorem Event.bytes_eq (e : Event) : e.bytes = [e.kind.code, (e.corner.map Corner.code).getD 0xFF, e.detail1, e.detail2,
    e.value.extractLsb' 8 8, e.value.extractLsb' 0 8, BitVec.ofNat 8 e.count] := by
  unfold Event.bytes
  cases e.corner <;> rfl

/-- What ReadEvents leaves: the younger records, no overflow mark, and ATN while a record is left. -/
theorem takeEvents_state (n : Nat) (s : State) : (takeEvents n s).1 = { s with link := { s.link with
    events := s.link.events.drop n, overflow := false, atn := decide (n < s.link.events.length) } } := by
  have left : (!(s.link.events.drop n).isEmpty) = decide (n < s.link.events.length) := by
    rw [Bool.eq_iff_iff]; simp
  rw [← left]
  rfl

/-- What ReadEvents reports: how many records, the mark as it stood, and the records themselves. -/
theorem takeEvents_payload (n : Nat) (s : State) : (takeEvents n s).2 =
    [BitVec.ofNat 8 (min n s.link.events.length), if s.link.overflow then 1 else 0] ++
      (s.link.events.take n).flatMap fun e =>
        [e.kind.code, (e.corner.map Corner.code).getD 0xFF, e.detail1, e.detail2,
          e.value.extractLsb' 8 8, e.value.extractLsb' 0 8, BitVec.ofNat 8 e.count] := by
  simp only [← Event.bytes_eq, ← List.length_take]
  rfl

theorem takeReadEvents_inside {tag wanted : Byte} (s : State) (h : 1 ≤ wanted.toNat ∧ wanted.toNat ≤ 6) :
    takeReadEvents tag wanted s =
      reply tag 0x04 .ok (takeEvents wanted.toNat s).2 (takeEvents wanted.toNat s).1 := by
  rw [takeReadEvents, if_pos (byteInRange_eq_true.2 h)]

theorem takeReadEvents_outside {tag wanted : Byte} (s : State) (h : wanted.toNat < 1 ∨ 6 < wanted.toNat) :
    takeReadEvents tag wanted s = reply tag 0x04 .badValue [1, 0] s := by
  have outside : ¬ byteInRange 1 6 wanted = true := by rw [byteInRange_eq_true]; omega
  rw [takeReadEvents, if_neg outside, refuseValue]

/-- Settles O17: ReadEvents is admitted in every part state, and the number asked for decides between the records, taken
before the reply is placed, and the refusal. -/
theorem readEventsTakesOldest : Obligations.ReadEventsTakesOldest := by
  rintro tag wanted s u listening rfl
  have admitted : stateTest (.readEvents wanted) s.control.part = none := rfl
  have taken : exec (.readEvents tag wanted) s = .next (takeReadEvents tag wanted s) :=
    exec_command_passed tag (.readEvents wanted) s listening admitted rfl
  rw [taken]
  refine ⟨fun inside => ?_, fun outside => ?_⟩
  · rw [takeReadEvents_inside s inside, takeEvents_state, takeEvents_payload, reply_eq]
    rfl
  · rw [takeReadEvents_outside s outside, reply_eq]
    rfl

end Sys2Proof.Machine

/-! PROOF. What the blocks' hand-overs keep: one relation between the state before and after an operation, from which the
invariants of the timers, the preview blocks, the arbiters, the regulators and the link follow. -/

namespace Sys2Proof.Machine

/-! ### Arbiters -/

/-- The invariant of one arbiter beside its guard: whether it is to be Active, and its failsafe form, are given. -/
def Arbiter.Fits (active : Bool) (failsafe : Option Nat) (g : Guard) (a : Arbiter) : Prop :=
  a.active = active ∧
  (if a.active then
    a.stored.isSome ∧ a.level = some a.winner.1 ∧ a.resolved = a.winner.2 ∧ a.failsafe = failsafe ∧
      a.guard = g.engaged.map (fun _ => g.guardDemand)
  else a.level = none ∧ a.resolved = none ∧ g.engaged = none)

/-- The failsafe form of an Active arbiter: FailsafeDemand in Failsafe, none elsewhere (R78, R79). -/
def Control.failsafeForm (x : Control) : Option Nat := if x.part = .failsafe then some x.failsafeDemand else none

/-- An arbiter fits its place in a state. -/
def State.ArbiterFits (s : State) (c : Corner) : Prop :=
  (s.arbiter.get c).Fits (s.driving && (s.sensing.get c).enabled) s.control.failsafeForm (s.guard.get c)

theorem arbitersSound_iff (s : State) : s.ArbitersSound ↔ ∀ c, s.ArbiterFits c := Iff.rfl

/-- The forms of an arbiter that is to fit, once it has resolved. -/
theorem Arbiter.settled_fits {active : Bool} {failsafe : Option Nat} {g : Guard} {a : Arbiter} (ha : a.active = active)
    (forms : active = true → a.stored.isSome ∧ a.failsafe = failsafe ∧ a.guard = g.engaged.map (fun _ => g.guardDemand))
    (idle : active = false → a.level = none ∧ a.resolved = none ∧ g.engaged = none) :
    a.settled.Fits active failsafe g := by
  subst ha
  cases h : a.active with
  | false => simpa [Fits, settled, h] using idle h
  | true => simpa [Fits, settled, h, Arbiter.winner] using forms h

theorem Arbiter.Fits.forms {active : Bool} {failsafe : Option Nat} {g : Guard} {a : Arbiter}
    (h : a.Fits active failsafe g) (ha : active = true) :
    a.stored.isSome ∧ a.failsafe = failsafe ∧ a.guard = g.engaged.map (fun _ => g.guardDemand) := by
  obtain ⟨h1, h2⟩ := h
  simp only [h1, ha, if_true] at h2
  exact ⟨h2.1, h2.2.2.2⟩

theorem Arbiter.Fits.idle {active : Bool} {failsafe : Option Nat} {g : Guard} {a : Arbiter}
    (h : a.Fits active failsafe g) (ha : active = false) : a.level = none ∧ a.resolved = none ∧ g.engaged = none := by
  obtain ⟨h1, h2⟩ := h
  simpa only [h1, ha, Bool.false_eq_true, if_false] using h2

/-- The failsafe form of an Idle arbiter is not looked at. -/
theorem Arbiter.Fits.anyForm {f : Option Nat} {g : Guard} {a : Arbiter} (h : a.Fits false f g) (f' : Option Nat) :
    a.Fits false f' g := ⟨h.1, by rw [if_neg (by simp [h.1])]; exact h.idle rfl⟩

theorem Arbiter.Fits.preview {active : Bool} {failsafe : Option Nat} {g : Guard} {a : Arbiter}
    (h : a.Fits active failsafe g) (f : Option StepForm) :
    ({ a with preview := f } : Arbiter).settled.Fits active failsafe g := settled_fits h.1 h.forms h.idle

theorem Arbiter.Fits.stored {active : Bool} {failsafe : Option Nat} {g : Guard} {a : Arbiter}
    (h : a.Fits active failsafe g) (d : Nat) :
    ({ a with stored := some d } : Arbiter).settled.Fits active failsafe g :=
  settled_fits h.1 (fun ha => ⟨rfl, (h.forms ha).2⟩) h.idle

/-- A guard that is released, or settles another demand, with its form handed on. -/
theorem Arbiter.Fits.guard {active : Bool} {failsafe : Option Nat} {g : Guard} {a : Arbiter}
    (h : a.Fits active failsafe g) (g' : Guard) (hg : active = false → g'.engaged = none) :
    ({ a with guard := g'.engaged.map fun _ => g'.guardDemand } : Arbiter).settled.Fits active failsafe g' :=
  settled_fits h.1 (fun ha => ⟨(h.forms ha).1, (h.forms ha).2.1, rfl⟩)
    (fun ha => ⟨(h.idle ha).1, (h.idle ha).2.1, hg ha⟩)

/-- A guard whose form stays the same. -/
theorem Arbiter.Fits.sameForm {active : Bool} {failsafe : Option Nat} {g g' : Guard} {a : Arbiter}
    (h : a.Fits active failsafe g) (hg : g'.engaged.map (fun _ => g'.guardDemand) = g.engaged.map fun _ => g.guardDemand) :
    a.Fits active failsafe g' := by
  refine ⟨h.1, ?_⟩
  obtain ⟨-, h2⟩ := h
  rw [hg]
  split
  · next ha => simpa [ha] using h2
  · next ha =>
    simp only [ha, Bool.false_eq_true, if_false] at h2
    obtain ⟨hl, hr, he⟩ := h2
    exact ⟨hl, hr, by simpa [he] using hg⟩

/-! ### The link -/

/-- What holds of the link while the processor draws: the invariant but for the inbound queue. -/
def LinkState.Steady (l : LinkState) : Prop :=
  l.events.length ≤ 16 ∧ l.atn = !l.events.isEmpty ∧ l.reservations = l.tests

/-- What an operation that answers no request keeps of the link: its soundness, the frames waiting, and the sum of replies
and reservations (R171). -/
def LinkState.Kept (l m : LinkState) : Prop :=
  m.inbound = l.inbound ∧ (l.Steady → m.Steady ∧ m.outstanding = l.outstanding)

theorem LinkState.Kept.refl (l : LinkState) : l.Kept l := ⟨rfl, fun h => ⟨h, rfl⟩⟩

theorem LinkState.Kept.trans {l m n : LinkState} (h : l.Kept m) (h' : m.Kept n) : l.Kept n := by
  refine ⟨h'.1.trans h.1, fun hl => ?_⟩
  obtain ⟨hm, e⟩ := h.2 hl
  obtain ⟨hn, e'⟩ := h'.2 hm
  exact ⟨hn, e'.trans e⟩

theorem LinkState.record_kept (e : Event) (l : LinkState) : l.Kept (l.record e) := by
  refine ⟨by simp, fun ⟨h1, h2, h3⟩ => ⟨⟨l.record_length e h1, ?_, by simpa [LinkState.tests] using h3⟩, by simp⟩⟩
  rw [l.record_atn e h2]
  simp [l.record_ne_nil e]

theorem LinkState.recordAll_kept (es : List Event) (l : LinkState) : l.Kept (l.recordAll es) := by
  induction es generalizing l with
  | nil => exact .refl l
  | cons e es ih => exact (l.record_kept e).trans (ih _)

theorem answerTest_link_kept (c : Corner) (status : Status) (payload : List Byte) (s : State) :
    s.link.Kept (answerTest c status payload s).link := by
  have sum := answerTest_sum c status payload s
  rcases answerTest_cases c status payload s with ⟨_, h⟩ | ⟨tag, ht, h⟩
  · rw [h]; exact .refl _
  · rw [h] at sum ⊢
    have := LinkState.tests_set_none s.link c (by simp [ht])
    exact ⟨rfl, fun hs => ⟨⟨hs.1, hs.2.1, by have := hs.2.2; simp only [LinkState.tests] at *; omega⟩, sum hs.2.2⟩⟩

/-! ### Regulators -/

/-- A handed target leaves the period timer alone. -/
theorem takeTarget_period (g : Regulation) (now new : Nat) (r : Regulator) :
    (takeTarget g now new r).period = r.period := by
  have kick (old : Nat) : (kickOrQuench g old new r).period = r.period := by
    rcases kickOrQuench_cases g old new r with ⟨_, _, _, h⟩ | ⟨_, _, _, h⟩ | h <;> rw [h]
  have place (o : Option Nat) : (placePending o new r).period = r.period := by
    unfold placePending; split <;> rfl
  unfold takeTarget applyInKick applyInQuench
  cases r.mode <;> simp only <;> split_ifs <;> simp only [kick, place]

/-- What an operation keeps of a regulator: whether its period timer runs, and its soundness. -/
def Regulator.Kept (r r' : Regulator) : Prop := r'.period.isSome = r.period.isSome ∧ (r.Sound → r'.Sound)

theorem Regulator.Kept.refl (r : Regulator) : r.Kept r := ⟨rfl, id⟩

theorem Regulator.Kept.trans {r r' r'' : Regulator} (h : r.Kept r') (h' : r'.Kept r'') : r.Kept r'' :=
  ⟨h'.1.trans h.1, fun hr => h'.2 (h.2 hr)⟩

theorem Handed.kept {g : Regulation} {now : Nat} {r r' : Regulator} (h : Handed g now r r') : r.Kept r' := by
  refine ⟨?_, h.sound⟩
  rcases h with rfl | ⟨i, rfl⟩
  · rfl
  · rw [takeTarget_period]

/-- One corner's regulator replaced by one that keeps it. -/
theorem PerCorner.kept_set {p : PerCorner Regulator} {c : Corner} {r : Regulator} (h : (p.get c).Kept r) (d : Corner) :
    (p.get d).Kept ((p.set c r).get d) := by
  rw [PerCorner.get_set]
  split
  · next e => exact e ▸ h
  · exact .refl _

/-! ### The relation -/

/-- Nothing is queued and nothing runs while the preview-active flag is false (R52). -/
def State.Rests (s : State) : Prop :=
  s.preview.active = false → (∀ c, s.queue.get c = []) ∧ ∀ c, s.context.get c = none

/-- What the operations of the blocks keep, none of which changes the part state, the distance unit, the converter, the
enabled corners or the preview flag. -/
structure Framed (s t : State) : Prop where
  now : s.now ≤ t.now
  pending : t.pending = s.pending
  resetLow : t.resetLow = s.resetLow
  control : t.control = s.control
  dist : t.dist = s.dist
  conv : t.conv = s.conv
  enabled : ∀ c, (t.sensing.get c).enabled = (s.sensing.get c).enabled
  flag : t.preview.active = s.preview.active
  windows : s.control.part ≠ .running → (∀ f, s.window.get f = none) → ∀ f, t.window.get f = none
  bounded : s.QueuesBounded → t.QueuesBounded
  arbiters : (∀ c, s.ArbiterFits c) → ∀ c, t.ArbiterFits c
  regs : ∀ c, (s.reg.get c).Kept (t.reg.get c)
  link : s.link.Kept t.link

/-- An operation that keeps the resting preview blocks at rest as well. -/
structure Quiet (s t : State) : Prop extends Framed s t where
  rests : s.Rests → t.Rests

theorem Framed.refl (s : State) : Framed s s :=
  ⟨le_rfl, rfl, rfl, rfl, rfl, rfl, fun _ => rfl, rfl, fun _ h => h, id, id, fun _ => .refl _, .refl _⟩

theorem Framed.trans {s t u : State} (h : Framed s t) (h' : Framed t u) : Framed s u where
  now := h.now.trans h'.now
  pending := h'.pending.trans h.pending
  resetLow := h'.resetLow.trans h.resetLow
  control := h'.control.trans h.control
  dist := h'.dist.trans h.dist
  conv := h'.conv.trans h.conv
  enabled c := (h'.enabled c).trans (h.enabled c)
  flag := h'.flag.trans h.flag
  windows hp hw := h'.windows (h.control ▸ hp) (h.windows hp hw)
  bounded hb := h'.bounded (h.bounded hb)
  arbiters ha := h'.arbiters (h.arbiters ha)
  regs c := (h.regs c).trans (h'.regs c)
  link := h.link.trans h'.link

theorem Quiet.refl (s : State) : Quiet s s := ⟨.refl s, id⟩

theorem Quiet.trans {s t u : State} (h : Quiet s t) (h' : Quiet t u) : Quiet s u :=
  ⟨h.toFramed.trans h'.toFramed, fun hs => h'.rests (h.rests hs)⟩

/-- While the flag is true there is nothing to rest. -/
theorem Framed.quiet {s t : State} (h : Framed s t) (ha : s.preview.active = true) : Quiet s t :=
  ⟨h, fun _ ht => by simp [h.flag, ha] at ht⟩

/-- Operations one after another. -/
theorem Quiet.foldl {α : Type} {f : State → α → State} (hf : ∀ s a, Quiet s (f s a)) (l : List α) (s : State) :
    Quiet s (l.foldl f s) := by
  induction l generalizing s with
  | nil => exact .refl s
  | cons a l ih => exact (hf s a).trans (ih _)

theorem Framed.foldl {α : Type} {f : State → α → State} (hf : ∀ s a, Framed s (f s a)) (l : List α) (s : State) :
    Framed s (l.foldl f s) := by
  induction l generalizing s with
  | nil => exact .refl s
  | cons a l ih => exact (hf s a).trans (ih _)

theorem Quiet.spend (s : State) (n : Nat) : Quiet s (s.spend n) := ⟨{ Framed.refl s with }, id⟩

theorem Quiet.reachTime (s : State) (t : Nat) : Quiet s (s.reachTime t) :=
  ⟨{ Framed.refl s with now := le_max_left .. }, id⟩

/-- Operations in a free order. -/
theorem Quiet.forEachFree {α : Type} {l : List α} {f : α → State → State} (hf : ∀ a ∈ l, ∀ s, Quiet s (f a s))
    (s : State) : Quiet s (forEachFree l f s) :=
  forEachFree_keeps (Quiet s) l f (fun a ha t ht => ht.trans (hf a ha t)) (fun t n ht => ht.trans (.spend t n)) s (.refl s)

theorem Quiet.inEitherOrder {f g : State → State} (hf : ∀ s, Quiet s (f s)) (hg : ∀ s, Quiet s (g s)) (s : State) :
    Quiet s (inEitherOrder f g s) := by
  rcases inEitherOrder_cases f g s with h | h <;> rw [h]
  · exact ((Quiet.spend s 1).trans (hf _)).trans (hg _)
  · exact ((Quiet.spend s 1).trans (hg _)).trans (hf _)

/-! ### The operations -/

theorem queueEvent_quiet (e : Event) (s : State) : Quiet s (queueEvent e s) :=
  ⟨{ Framed.refl s with link := s.link.record_kept e }, id⟩

/-- A regulator replaced by one that keeps it. -/
theorem setReg_quiet {c : Corner} {r : Regulator} {s : State} (h : (s.reg.get c).Kept r) : Quiet s (s.setReg c r) :=
  ⟨{ Framed.refl s with regs := PerCorner.kept_set h }, id⟩

/-- A hand-over at one corner: the arbiter that fits the guard given, and the mapper and regulator it leaves. -/
theorem handOver_quiet {c : Corner} {g : Guard} {a : Arbiter} {m : Mapper} {r : Regulator} {s : State}
    (hr : (s.reg.get c).Kept r)
    (ha : s.ArbiterFits c → a.Fits (s.driving && (s.sensing.get c).enabled) s.control.failsafeForm g) :
    Quiet s { s with
      guard := s.guard.set c g, arbiter := s.arbiter.set c a, mapper := s.mapper.set c m, reg := s.reg.set c r } := by
  refine ⟨{ Framed.refl s with regs := PerCorner.kept_set hr, arbiters := fun h d => ?_ }, id⟩
  simp only [State.ArbiterFits, PerCorner.get_set]
  split
  · next e => subst e; exact ha (h d)
  · exact h d

theorem handPreview_quiet (c : Corner) (f : Option StepForm) (s : State) : Quiet s (handPreview c f s) := by
  obtain ⟨m, r, hr, h⟩ := handPreview_frame c f s
  have := handOver_quiet (g := s.guard.get c) (m := m) hr.kept (fun h => h.preview f)
  rw [h]; simpa using this

theorem storeDemand_quiet (c : Corner) (d : Nat) (s : State) : Quiet s (storeDemand c d s) := by
  obtain ⟨m, r, hr, h⟩ := storeDemand_frame c d s
  have := handOver_quiet (g := s.guard.get c) (m := m) hr.kept (fun h => h.stored d)
  rw [h]; simpa using this

/-- The guard form handed for a guard just replaced. -/
theorem handGuard_quiet {c : Corner} {g : Guard} {s : State}
    (hg : s.ArbiterFits c → (s.driving && (s.sensing.get c).enabled) = false → g.engaged = none) :
    Quiet s (handGuard c (g.engaged.map fun _ => g.guardDemand) (s.setGuard c g)) := by
  obtain ⟨m, r, hr, h⟩ := handGuard_frame c (g.engaged.map fun _ => g.guardDemand) (s.setGuard c g)
  rw [h]
  exact handOver_quiet hr.kept (fun h => h.guard g (hg h))

/-- A guard replaced by one with the same form. -/
theorem setGuard_quiet {c : Corner} {g : Guard} {s : State}
    (hg : g.engaged.map (fun _ => g.guardDemand) = (s.guard.get c).engaged.map fun _ => (s.guard.get c).guardDemand) :
    Quiet s (s.setGuard c g) := by
  have := handOver_quiet (a := s.arbiter.get c) (m := s.mapper.get c) (.refl (s.reg.get c)) (fun h => h.sameForm hg)
  simpa [State.setGuard] using this

theorem releaseGuard_quiet (c : Corner) (s : State) : Quiet s (releaseGuard c s) := by
  unfold releaseGuard
  split
  · exact .refl s
  · exact handGuard_quiet (g := { s.guard.get c with engaged := none, timer := none }) fun _ _ => rfl

theorem engageGuard_quiet (c : Corner) (side : Dir) (x : Int) (s : State)
    (h : s.ArbiterFits c → (s.driving && (s.sensing.get c).enabled) = true) : Quiet s (engageGuard c side x s) := by
  unfold engageGuard
  simp only
  generalize ht : (if (s.guard.get c).guardHold ≠ 0 then some (s.now + 1000 * (s.guard.get c).guardHold)
    else (s.guard.get c).timer) = timer
  split
  · exact (handGuard_quiet (g := { s.guard.get c with engaged := some side, timer := timer })
      fun hf hd => by simp [h hf] at hd).trans (queueEvent_quiet _ _)
  · next d hd =>
    have same : Quiet s (s.setGuard c { s.guard.get c with engaged := some side, timer := timer }) :=
      setGuard_quiet (by simp [hd])
    split
    · exact same
    · exact same.trans (queueEvent_quiet _ _)

/-- A sample at the guard of an Enabled corner. -/
theorem guardSample_quiet (c : Corner) (x v : Int) (s : State) (h : (s.sensing.get c).enabled = true) :
    Quiet s (guardSample c x v s) := by
  unfold guardSample
  split
  · next hd =>
    simp only
    split
    · exact engageGuard_quiet c _ x s fun _ => by simp [hd, h]
    · split
      · exact releaseGuard_quiet c s
      · exact .refl s
  · exact .refl s

theorem setContext_none_quiet (c : Corner) (s : State) : Quiet s (s.setContext c none) := by
  refine ⟨{ Framed.refl s with }, fun h ht => ⟨(h ht).1, fun d => ?_⟩⟩
  rw [State.setContext_context, PerCorner.get_set]
  split
  · rfl
  · exact (h ht).2 d

theorem emptyContext_quiet (c : Corner) (s : State) : Quiet s (emptyContext c s) := by
  unfold emptyContext
  split
  · exact .refl s
  · exact (setContext_none_quiet c s).trans (handPreview_quiet c none _)

theorem startEntry_framed (c : Corner) (e : Entry) (s : State) : Framed s (startEntry c e s) := by
  unfold startEntry
  split
  · exact .refl s
  · exact Framed.trans (t := s.setContext c _) { Framed.refl s with } (handPreview_quiet c _ _).toFramed

theorem offerToRunner_framed (c : Corner) (e : Entry) (s : State) : Framed s (offerToRunner c e s) := by
  unfold offerToRunner
  split
  · exact startEntry_framed c e s
  · split
    · exact startEntry_framed c e s
    · exact (queueEvent_quiet _ s).toFramed

/-- A runner's advance notice: only a Running context moves on, and only while the flag is true is there one. -/
theorem runnerNotice_quiet (c : Corner) (s : State) : Quiet s (runnerNotice c s) := by
  unfold runnerNotice
  split
  · exact .refl s
  · next x hx =>
    split
    · exact emptyContext_quiet c s
    · split
      · exact .refl s
      · next y _ _ =>
        refine ⟨Framed.trans (t := s.setContext c (some y)) { Framed.refl s with } (handPreview_quiet c _ _).toFramed,
          fun h => (handPreview_quiet c _ _).rests fun ha => ?_⟩
        have := (h ha).2 c
        simp [hx] at this

/-- A queue replaced by one that is no longer than eight. -/
theorem setQueue_framed {c : Corner} {q : List Entry} {s : State} (hq : (s.queue.get c).length ≤ 8 → q.length ≤ 8) :
    Framed s (s.setQueue c q) := by
  refine { Framed.refl s with bounded := fun h d => ?_ }
  rw [State.setQueue_queue, PerCorner.get_set]
  split
  · next e => subst e; exact hq (h d)
  · exact h d

theorem maturityCheck_quiet (c : Corner) (s : State) : Quiet s (maturityCheck c s) := by
  have framed : Framed s (maturityCheck c s) :=
    (setQueue_framed fun h => (List.length_dropWhile_le _ _).trans h).trans
      (Framed.foldl (fun t e => offerToRunner_framed c e t) _ _)
  refine ⟨framed, fun h ha => ?_⟩
  have rest := h (framed.flag ▸ ha)
  rw [maturityCheck_empty c s (rest.1 c)]
  exact rest

theorem speedUpdate_quiet (s : State) : Quiet s (speedUpdate s) := by
  refine .forEachFree (fun f hf t => ?_) s
  obtain ⟨c, -, rfl⟩ := List.mem_map.1 hf
  exact maturityCheck_quiet c t

theorem handSpeed_quiet (before : Nat) (record : Option Event) (s : State) : Quiet s (handSpeed before record s) := by
  have acts (f : State → State) (hf : f ∈ (record.map queueEvent).toList ++ allChecks) (t : State) : Quiet t (f t) := by
    rcases List.mem_append.1 hf with h | h
    · cases record with
      | none => simp at h
      | some e =>
        obtain rfl : f = queueEvent e := by simpa using h
        exact queueEvent_quiet e t
    · obtain ⟨c, -, rfl⟩ := List.mem_map.1 h
      exact maturityCheck_quiet c t
  unfold handSpeed
  simp only
  split
  · cases record with
    | none => exact .refl s
    | some e => exact queueEvent_quiet e s
  · exact .forEachFree acts s

theorem recordLost_quiet (c : Corner) (lost : Option Entry) (s : State) : Quiet s (recordLost c lost s) := by
  unfold recordLost
  split
  · exact .refl s
  · exact queueEvent_quiet _ s

/-! ### The preview queue -/

theorem placeByArrival_perm (e : Entry) (q : List Entry) : (placeByArrival e q).Perm (e :: q) := by
  unfold placeByArrival
  have := List.perm_middle (a := e) (l₁ := q.takeWhile fun x => !earlier e.arrival x.arrival)
    (l₂ := q.dropWhile fun x => !earlier e.arrival x.arrival)
  rwa [List.takeWhile_append_dropWhile] at this

theorem placeByArrival_length (e : Entry) (q : List Entry) : (placeByArrival e q).length = q.length + 1 :=
  (placeByArrival_perm e q).length_eq

/-- The insertion rule keeps a queue within eight entries (R45). -/
theorem insertEntry_length (merge : Nat) (new : Entry) (q : List Entry) (h : q.length ≤ 8) :
    (insertEntry merge new q).queue.length ≤ 8 := by
  unfold insertEntry
  split
  · next first others hn =>
    have parts := q.length_eq_length_filter_add fun x => within merge new.arrival x.arrival
    rw [hn, List.length_cons] at parts
    simp only [placeByArrival_length]; omega
  · split
    · simp only [placeByArrival_length]; omega
    · split
      · simp
      · simp only
        split
        · split
          · next victim hv =>
            have mem := (List.mem_filter.1 (List.mem_of_getLast? hv)).1
            simp only [placeByArrival_length, List.length_erase_of_mem mem]
            simp only [List.length_cons] at h ⊢; omega
          · exact h
        · exact h

theorem offerToQueue_framed (c : Corner) (e : Entry) (s : State) : Framed s (offerToQueue c e s).1 := by
  have placed : Framed s (recordLost c (insertEntry s.dist.mergeDistance e (s.queue.get c)).lost
      (s.setQueue c (insertEntry s.dist.mergeDistance e (s.queue.get c)).queue)) :=
    (setQueue_framed (insertEntry_length _ _ _)).trans (recordLost_quiet c _ _).toFramed
  unfold offerToQueue
  simp only
  split
  · exact placed
  · exact placed.trans (maturityCheck_quiet c _).toFramed

theorem drawId_quiet (s : State) : Quiet s (drawId s) := ⟨{ Framed.refl s with }, id⟩

/-! ### The detectors -/

theorem setWindow_none_quiet (f : Front) (s : State) : Quiet s (s.setWindow f none) := by
  refine ⟨{ Framed.refl s with windows := fun _ h g => ?_ }, id⟩
  rw [State.setWindow_window, PerFront.get_set]
  split
  · rfl
  · exact h g

/-- Only while the flag is true does a closing window make an entry (R40). -/
theorem detectedEntry_active {f : Front} {w : Window} {s : State} {e : Entry} (h : detectedEntry f w s = some e) :
    s.preview.active = true := by
  unfold detectedEntry at h
  split at h
  · split at h
    · next ha => exact ha.1
    · cases h
  · cases h

theorem closeWindow_quiet (f : Front) (w : Window) (s : State) : Quiet s (closeWindow f w s) := by
  unfold closeWindow
  simp only
  have closed := (setWindow_none_quiet f s).trans (queueEvent_quiet (event .impactDetected (some f.corner) (byteOf w.peak)
    w.dir.code (windowLength (s.setWindow f none) w).toNat) _)
  split
  · exact closed
  · next e he =>
    have active := detectedEntry_active he
    exact closed.trans ((drawId_quiet _).trans ((offerToQueue_framed f.rear e _).quiet active))

/-- A window may be opened in Running. -/
theorem setWindow_quiet (f : Front) (w : Option Window) (s : State) (h : s.control.part = .running) :
    Quiet s (s.setWindow f w) := ⟨{ Framed.refl s with windows := fun hp => absurd h hp }, id⟩

theorem openWindow_quiet (f : Front) (v : Int) (s : State) (h : s.control.part = .running) :
    Quiet s (openWindow f v s) := by
  unfold openWindow
  simp only
  split
  · exact setWindow_quiet f _ s h
  · split
    · exact setWindow_quiet f _ s h
    · exact .refl s

theorem detectorSample_quiet (f : Front) (v : Int) (s : State) : Quiet s (detectorSample f v s) := by
  unfold detectorSample
  split
  · next h =>
    split
    · exact openWindow_quiet f v s h
    · next w _ =>
      have closed := closeWindow_quiet f w s
      simp only
      split
      · exact closed.trans (openWindow_quiet f v _ (by rw [closed.control]; exact h))
      · split
        · exact closed
        · exact setWindow_quiet f _ s h
  · exact .refl s

theorem detectorNotice_quiet (f : Front) (s : State) : Quiet s (detectorNotice f s) := by
  unfold detectorNotice
  split
  · exact .refl s
  · split
    · exact closeWindow_quiet f _ s
    · exact .refl s

theorem advanceNotice_quiet (s : State) : Quiet s (advanceNotice s) := by
  refine (Quiet.foldl (fun t c => runnerNotice_quiet c t) _ s).trans (.forEachFree (fun f hf t => ?_) _)
  rcases List.mem_append.1 hf with h | h
  · obtain ⟨c, -, rfl⟩ := List.mem_map.1 h
    exact maturityCheck_quiet c t
  · obtain rfl | rfl : f = detectorNotice .fl ∨ f = detectorNotice .fr := by simpa using h
    · exact detectorNotice_quiet .fl t
    · exact detectorNotice_quiet .fr t

/-! ### The flag's turning false -/

theorem flushQueues_quiet (s : State) : Quiet s (flushQueues s) := by
  refine ⟨{ Framed.refl s with windows := fun _ _ f => ?_, bounded := fun _ c => ?_ }, fun h ha => ⟨fun c => ?_, (h ha).2⟩⟩
  · cases f <;> rfl
  · simp [flushQueues]
  · simp [flushQueues]

theorem flushPreview_quiet (s : State) : Quiet s (flushPreview s) :=
  (flushQueues_quiet s).trans (Quiet.foldl (fun t c => emptyContext_quiet c t) _ _)

end Sys2Proof.Machine

/-! PROOF. What the coil regulators' operations keep (chapters 7 and 8). -/

namespace Sys2Proof.Machine

/-! ### One regulator -/

theorem trim_zero_low : (-256 : Int) ≤ 0 := by decide

theorem trim_zero_high : (0 : Int) ≤ 255 := by decide

/-- The ranges of a sound regulator, whatever its mode. -/
def Regulator.InRange (r : Regulator) : Prop :=
  r.duty ≤ 1023 ∧ -256 ≤ r.trim ∧ r.trim ≤ 255 ∧ 1500 ≤ r.rEst ∧ r.rEst ≤ 12000 ∧ r.openCount ≤ 2 ∧ r.lastIm ≤ 4095

theorem Regulator.sound_iff (r : Regulator) : r.Sound ↔ r.InRange ∧ ∀ d ∈ r.mode.fixedDuty, r.duty = d := by
  simp only [Regulator.Sound, Regulator.InRange, and_assoc]

theorem Regulator.Sound.inRange {r : Regulator} (h : r.Sound) : r.InRange := (r.sound_iff.1 h).1

theorem kickOrQuench_period (g : Regulation) (old new : Nat) (r : Regulator) :
    (kickOrQuench g old new r).period = r.period := by
  rcases kickOrQuench_cases g old new r with ⟨_, _, _, h⟩ | ⟨_, _, _, h⟩ | h <;> rw [h]

theorem kickOrQuench_kept (g : Regulation) (old new : Nat) {r r' : Regulator} (hp : r'.period.isSome = r.period.isSome)
    (h : r.Sound → r'.InRange) : r.Kept (kickOrQuench g old new r') :=
  ⟨by rw [kickOrQuench_period]; exact hp, fun hr => kickOrQuench_sound g old new r' (h hr)⟩

/-- A regulator in a mode that fixes a duty. -/
theorem Regulator.kept_of_fixed {r r' : Regulator} (hp : r'.period.isSome = r.period.isSome)
    (h : r.InRange → r'.InRange) (hd : ∀ d ∈ r'.mode.fixedDuty, r'.duty = d) : r.Kept r' :=
  ⟨hp, fun hr => r'.sound_iff.2 ⟨h hr.inRange, hd⟩⟩

theorem Regulator.takeSlot_kept (r : Regulator) : r.Kept r.takeSlot := by
  unfold Regulator.takeSlot
  split <;> exact .refl _

theorem startProbeTimer_kept (g : Regulation) (c : Corner) (now : Nat) (r : Regulator) :
    r.Kept (startProbeTimer g c now r) := by
  unfold startProbeTimer
  split <;> exact .refl _

theorem placePending_kept (at' : Option Nat) (new : Nat) (r : Regulator) : r.Kept (placePending at' new r) := by
  unfold placePending
  split <;> exact .refl _

theorem applyInKick_kept (g : Regulation) (new : Nat) (r : Regulator) : r.Kept (applyInKick g new r) := by
  unfold applyInKick
  split
  · exact .refl _
  · exact kickOrQuench_kept g _ new rfl Regulator.Sound.inRange

theorem applyInQuench_kept (g : Regulation) (new : Nat) (r : Regulator) : r.Kept (applyInQuench g new r) := by
  unfold applyInQuench
  split
  · exact .refl _
  · exact kickOrQuench_kept g _ new rfl Regulator.Sound.inRange

theorem applyPending_kept (g : Regulation) (r : Regulator) : r.Kept (applyPending g r) := by
  unfold applyPending
  split
  · exact .refl r
  · next p _ =>
    split
    · exact kickOrQuench_kept g _ _ rfl Regulator.Sound.inRange
    · exact .trans (r' := { r with slot := none }) (.refl r) (applyInKick_kept g _ _)
    · exact .trans (r' := { r with slot := none }) (.refl r) (applyInQuench_kept g _ _)
    · exact .refl r
    · exact .refl r
    · exact .refl r
    · exact .refl r
    · exact .refl r

theorem entryFromZero_kept (g : Regulation) (band : Band) (c : Corner) (now : Nat) {r r' : Regulator}
    (hp : r'.period.isSome = r.period.isSome) (h : r.Sound → r'.InRange) :
    r.Kept (entryFromZero g band c now r') := by
  unfold entryFromZero
  split
  · refine ⟨hp, fun hr => (Regulator.sound_iff _).2 ⟨?_, by simp [Mode.fixedDuty]⟩⟩
    obtain ⟨-, h2, h3, h4, h5, -, h7⟩ := h hr
    exact ⟨Nat.zero_le _, h2, h3, h4, h5, Nat.zero_le _, h7⟩
  · refine kickOrQuench_kept g 0 _ ?_ fun hr => ?_
    · unfold startProbeTimer; split <;> exact hp
    · have := h hr
      unfold startProbeTimer
      split <;> exact this

theorem abandonTest_kept (r : Regulator) : r.Kept (abandonTest r) := by
  unfold abandonTest
  split
  · next ret _ =>
    refine Regulator.kept_of_fixed rfl (fun ⟨_, h⟩ => ⟨Nat.zero_le _, h⟩) ?_
    cases ret <;> simp [ReturnMode.mode, Mode.fixedDuty]
  · exact .refl r

theorem startRegulator_kept (g : Regulation) (band : Band) (c : Corner) (now : Nat) (r : Regulator) :
    r.Kept (startRegulator g band c now r) := by
  unfold startRegulator
  split
  · exact .refl r
  · split
    · refine Regulator.kept_of_fixed rfl ?_ (by simp [Mode.fixedDuty])
      rintro ⟨-, -, -, h4, h5, -, h7⟩
      exact ⟨Nat.zero_le _, trim_zero_low, trim_zero_high, h4, h5, Nat.zero_le _, h7⟩
    · refine .trans (Regulator.kept_of_fixed (r' := { r with
        mode := .regulating, duty := 0, trim := 0, slot := none, probeDue := false, testWaiting := false })
        rfl ?_ (by simp [Mode.fixedDuty])) (startProbeTimer_kept g c now _)
      rintro ⟨-, -, -, h4, h5, h6, h7⟩
      exact ⟨Nat.zero_le _, trim_zero_low, trim_zero_high, h4, h5, h6, h7⟩

theorem enterOff_kept (r : Regulator) : r.Kept (enterOff r) := by
  have range : r.InRange → ({ r with duty := 0, trim := 0, openCount := 0 } : Regulator).InRange := by
    rintro ⟨-, -, -, h4, h5, -, h7⟩
    exact ⟨Nat.zero_le _, trim_zero_low, trim_zero_high, h4, h5, Nat.zero_le _, h7⟩
  unfold enterOff
  split <;> exact Regulator.kept_of_fixed rfl range (by simp [Mode.fixedDuty])

theorem enterHold_kept (g : Regulation) (r : Regulator) : r.Kept (enterHold g r) := by
  have slot : r.Kept (slotAtHold g r) := by
    unfold slotAtHold
    split
    · split
      · exact .refl r
      · exact r.takeSlot_kept
    · exact .refl r
  unfold enterHold
  split
  · exact .refl r
  · exact .refl r
  · exact .refl r
  · exact abandonTest_kept r
  · refine slot.trans (Regulator.kept_of_fixed rfl ?_ (by simp [Mode.fixedDuty]))
    rintro ⟨-, h2, h3, h4, h5, -, h7⟩
    exact ⟨Nat.zero_le _, h2, h3, h4, h5, Nat.zero_le _, h7⟩

theorem leaveHold_kept (g : Regulation) (band : Band) (c : Corner) (now : Nat) (r : Regulator) :
    r.Kept (leaveHold g band c now r) := by
  unfold leaveHold
  split
  · exact entryFromZero_kept g band c now rfl Regulator.Sound.inRange
  · exact .refl r

theorem Regulator.makeFaulted_kept (k : FaultKind) (r : Regulator) : r.Kept (r.makeFaulted k) := by
  refine ⟨?_, r.makeFaulted_sound k⟩
  unfold Regulator.makeFaulted Regulator.takeSlot
  split <;> rfl

theorem startTest_kept (r : Regulator) : r.Kept (startTest r) := by
  refine r.takeSlot_kept.trans (Regulator.kept_of_fixed rfl ?_ (by simp [startTest, Mode.fixedDuty, testDuty]))
  rintro ⟨-, h2, h3, h4, h5, -, h7⟩
  exact ⟨by simp [startTest, testDuty], h2, h3, h4, h5, Nat.zero_le _, h7⟩

/-- A mode whose duty is not fixed, with any duty of the range. -/
theorem Regulator.kept_free {r : Regulator} {mode : Mode} {duty : Nat} (hm : mode.fixedDuty = none) (hd : duty ≤ 1023) :
    r.Kept { r with mode := mode, duty := duty } :=
  Regulator.kept_of_fixed rfl (fun ⟨_, h⟩ => ⟨hd, h⟩) (by simp [hm])

theorem regulate_kept (ki im vbat : Nat) (r : Regulator) (h : r.mode = .regulating) : r.Kept (regulate ki im vbat r) := by
  unfold regulate
  split
  · exact Regulator.kept_of_fixed rfl (fun ⟨_, h⟩ => ⟨Nat.zero_le _, h⟩) (by simp [h, Mode.fixedDuty])
  · refine Regulator.kept_of_fixed rfl ?_ (by simp [h, Mode.fixedDuty])
    rintro ⟨-, h2, h3, h⟩
    obtain ⟨l, u⟩ := r.trimAfter_bounds r.targetNow im ki ⟨h2, h3⟩
    exact ⟨Regulator.dutyFor_le _ _ _, l, u, h⟩

theorem kickExpiry_kept (g : Regulation) (count im vbat : Nat) (r : Regulator) :
    r.Kept (kickExpiry g count im vbat r) := by
  unfold kickExpiry
  split
  · exact Regulator.kept_free rfl (r.dutyFor_le _ _)
  · exact Regulator.kept_of_fixed rfl (fun ⟨_, h⟩ => ⟨le_rfl, h⟩) (by simp [Mode.fixedDuty])

theorem quenchExpiry_kept (g : Regulation) (count im vbat : Nat) (r : Regulator) :
    r.Kept (quenchExpiry g count im vbat r) := by
  unfold quenchExpiry
  split
  · exact Regulator.kept_free rfl (r.dutyOrZero_le _)
  · exact Regulator.kept_of_fixed rfl (fun ⟨_, h⟩ => ⟨Nat.zero_le _, h⟩) (by simp [Mode.fixedDuty])

theorem applyReady_kept (g : Regulation) (now : Nat) (r : Regulator) : r.Kept (applyReady g now r) := by
  unfold applyReady
  split
  · split
    · exact kickOrQuench_kept g _ _ rfl Regulator.Sound.inRange
    · exact .refl r
  · exact .refl r

theorem probeMeasured_kept (g : Regulation) (c : Corner) (now rMeas vbat : Nat) (r : Regulator) :
    r.Kept (probeMeasured g c now rMeas vbat r) := by
  have estimated : r.Kept { r with
      rEst := moveEstimate r.rEst rMeas, mode := .regulating,
      duty := ({ r with rEst := moveEstimate r.rEst rMeas, mode := .regulating } : Regulator).dutyOrZero vbat } := by
    refine Regulator.kept_of_fixed rfl ?_ (by simp [Mode.fixedDuty])
    rintro ⟨-, h2, h3, -, -, h6, h7⟩
    obtain ⟨l, u⟩ := moveEstimate_bounds r.rEst rMeas
    exact ⟨Regulator.dutyOrZero_le _ _, h2, h3, l, u, h6, h7⟩
  exact (estimated.trans (applyReady_kept g now _)).trans (startProbeTimer_kept g c now _)

theorem Regulator.startProbe_kept (r : Regulator) : r.Kept r.startProbe :=
  Regulator.kept_of_fixed rfl id (by simp [Regulator.startProbe, Mode.fixedDuty])

/-! ### CoilTests answered, faults raised -/

theorem answerTest_quiet (c : Corner) (status : Status) (payload : List Byte) (s : State) :
    Quiet s (answerTest c status payload s) := by
  have link := answerTest_link_kept c status payload s
  rcases answerTest_cases c status payload s with ⟨_, h⟩ | ⟨tag, _, h⟩
  · rw [h]; exact .refl s
  · rw [h] at link ⊢
    exact ⟨{ Framed.refl s with link := link, regs := PerCorner.kept_set (.refl _) }, id⟩

theorem cancelTests_quiet (s : State) : Quiet s (cancelTests s) :=
  .forEachFree (fun c _ t => answerTest_quiet c _ _ t) s

theorem judgeLatch_quiet (c : Corner) (k : FaultKind) (s : State) : Quiet s (judgeLatch c k s) := by
  unfold judgeLatch
  split
  · exact .refl s
  · exact (setReg_quiet (r := { s.reg.get c with latched := true }) (.refl _)).trans (queueEvent_quiet _ _)

theorem raiseFault_quiet (c : Corner) (k : FaultKind) (detail : Byte) (value : Nat) (s : State) :
    Quiet s (raiseFault c k detail value s) :=
  ((setReg_quiet (Regulator.makeFaulted_kept k _)).trans (queueEvent_quiet _ _)).trans (judgeLatch_quiet c k _)

theorem faultAndAnswer_quiet (c : Corner) (k : FaultKind) (detail : Byte) (value : Nat) (imp rMeas : Option Nat)
    (s : State) : Quiet s (faultAndAnswer c k detail value imp rMeas s) :=
  (raiseFault_quiet c k detail value s).trans (answerTest_quiet c _ _ _)

/-! ### Measurements -/

theorem recover_quiet (c : Corner) (s : State) : Quiet s (recover c s) := by
  unfold recover
  simp only
  split
  · refine setReg_quiet (entryFromZero_kept _ _ _ _ rfl ?_)
    rintro ⟨h1, -, -, h4, h5, h6, h7, -⟩
    exact ⟨h1, trim_zero_low, trim_zero_high, h4, h5, h6, h7⟩
  · refine setReg_quiet (Regulator.kept_of_fixed rfl ?_ (by simp [Mode.fixedDuty]))
    rintro ⟨-, -, -, h⟩
    exact ⟨Nat.zero_le _, trim_zero_low, trim_zero_high, h⟩

theorem testSucceeds_quiet (c : Corner) (ret : ReturnMode) (rMeas : Nat) (s : State) :
    Quiet s (testSucceeds c ret rMeas s) := by
  have low : 1500 ≤ (clamp 1500 12000 rMeas).toNat := by rw [clamp_eq _ _ _ (by decide)]; omega
  have high : (clamp 1500 12000 rMeas).toNat ≤ 12000 := by rw [clamp_eq _ _ _ (by decide)]; omega
  unfold testSucceeds
  simp only
  generalize (clamp 1500 12000 rMeas).toNat = rEst at low high ⊢
  split
  · refine setReg_quiet (Regulator.kept_of_fixed rfl ?_ (by simp [Mode.fixedDuty]))
    rintro ⟨-, -, -, -, -, h6, h7⟩
    exact ⟨Nat.zero_le _, trim_zero_low, trim_zero_high, low, high, h6, h7⟩
  · refine .trans ?_ (recover_quiet c _)
    refine .trans ?_ (queueEvent_quiet _ _)
    refine setReg_quiet ⟨rfl, ?_⟩
    rintro ⟨h1, h2, h3, -, -, h6, h7, h8⟩
    exact ⟨h1, h2, h3, low, high, h6, h7, h8⟩

theorem testEnd_quiet (c : Corner) (ret : ReturnMode) (sum vbat : Nat) (s : State) :
    Quiet s (testEnd c ret sum vbat s) := by
  unfold testEnd
  simp only
  split
  · exact faultAndAnswer_quiet ..
  · split
    · exact faultAndAnswer_quiet ..
    · exact (testSucceeds_quiet c ret _ s).trans (answerTest_quiet ..)

theorem testExpiry_quiet (c : Corner) (count sum : Nat) (ret : ReturnMode) (im vbat : Nat) (s : State)
    (hm : (s.reg.get c).mode = .test count sum ret) : Quiet s (testExpiry c count sum ret im vbat s) := by
  unfold testExpiry
  simp only
  split
  · exact testEnd_quiet ..
  · refine setReg_quiet ⟨rfl, fun hr => ?_⟩
    obtain ⟨range, duty⟩ := (Regulator.sound_iff _).1 hr
    exact (Regulator.sound_iff _).2 ⟨range, by simpa [hm, Mode.fixedDuty] using duty⟩

theorem probeEnd_quiet (c : Corner) (sum vbat : Nat) (s : State) : Quiet s (probeEnd c sum vbat s) := by
  unfold probeEnd
  simp only
  split
  · exact faultAndAnswer_quiet ..
  · split
    · exact faultAndAnswer_quiet ..
    · have measured := setReg_quiet (s := s) (probeMeasured_kept s.regulation c s.now
        (resistance (s.reg.get c).duty vbat (meanOfFour sum)) vbat (s.reg.get c))
      split
      · exact measured.trans (answerTest_quiet ..)
      · exact measured

theorem probeExpiry_quiet (c : Corner) (count sum im vbat : Nat) (s : State) :
    Quiet s (probeExpiry c count sum im vbat s) := by
  unfold probeExpiry
  split
  · exact probeEnd_quiet ..
  · exact setReg_quiet (Regulator.kept_of_fixed rfl id (by simp [Mode.fixedDuty]))

/-! ### The regulation period -/

theorem regulatingExpiry_quiet (c : Corner) (im vbat : Nat) (s : State) (hm : (s.reg.get c).mode = .regulating) :
    Quiet s (regulatingExpiry c im vbat s) := by
  have step := setReg_quiet (s := s) (regulate_kept s.regulation.ki im vbat _ hm)
  have probe (t : State) : Quiet t (if (t.reg.get c).probeStarts then t.setReg c (t.reg.get c).startProbe else t) := by
    split
    · exact setReg_quiet (Regulator.startProbe_kept _)
    · exact .refl t
  refine .trans ?_ (probe _)
  split
  · exact (step.trans (setReg_quiet (r := { regulate s.regulation.ki im vbat (s.reg.get c) with testWaiting := false })
      (by rw [State.setReg_reg, PerCorner.get_set_self]; exact .refl _))).trans (answerTest_quiet ..)
  · exact step

theorem expiryByMode_quiet (c : Corner) (im vbat : Nat) (s : State) : Quiet s (expiryByMode c im vbat s) := by
  unfold expiryByMode
  simp only
  split
  · exact .refl s
  · exact .refl s
  · exact .refl s
  · next hm => exact regulatingExpiry_quiet c im vbat s hm
  · exact setReg_quiet (kickExpiry_kept ..)
  · exact setReg_quiet (quenchExpiry_kept ..)
  · exact probeExpiry_quiet ..
  · next hm => exact testExpiry_quiet _ _ _ _ _ _ _ hm

theorem judgeExpiry_quiet (c : Corner) (im vbat : Nat) (s : State) : Quiet s (judgeExpiry c im vbat s) := by
  unfold judgeExpiry
  simp only
  split
  · exact faultAndAnswer_quiet ..
  · split
    · exact faultAndAnswer_quiet ..
    · next few =>
      refine (setReg_quiet (r := { s.reg.get c with openCount := (s.reg.get c).openAfter im })
        ⟨rfl, ?_⟩).trans (expiryByMode_quiet c im vbat _)
      rintro ⟨h1, h2, h3, h4, h5, -, h7⟩
      exact ⟨h1, h2, h3, h4, h5, Nat.le_of_lt_succ (Nat.lt_of_not_le few), h7⟩

theorem periodExpiry_quiet (c : Corner) (im : Count) (s : State) : Quiet s (periodExpiry c im s) := by
  cases hp : (s.reg.get c).period with
  | none => rw [periodExpiry, hp]; exact .refl s
  | some T =>
    have noted : Quiet s { s with
        now := max s.now T, choices := if s.supply.vbat.isNone then s.choices + 1 else s.choices,
        reg := s.reg.set c { s.reg.get c with period := some (T + 500), lastIm := im.toNat } } := by
      refine ⟨{ Framed.refl s with now := le_max_left .., regs := PerCorner.kept_set ⟨by simp [hp], ?_⟩ }, id⟩
      rintro ⟨h1, h2, h3, h4, h5, h6, -, h8⟩
      exact ⟨h1, h2, h3, h4, h5, h6, Nat.le_of_lt_succ im.isLt, h8⟩
    rw [periodExpiry_running c im s T hp]
    exact noted.trans (judgeExpiry_quiet c _ _ _)

/-! ### Every regulator at once -/

theorem mapReg_quiet {f : Corner → Regulator → Regulator} {s : State} (h : ∀ c, (s.reg.get c).Kept (f c (s.reg.get c))) :
    Quiet s { s with reg := s.reg.mapIdx f } :=
  ⟨{ Framed.refl s with regs := fun c => by rw [PerCorner.get_mapIdx]; exact h c }, id⟩

theorem supplySample_quiet (v : Nat) (s : State) : Quiet s (supplySample v s) := by
  have noted (x : Supply) : Quiet s (s.setSupply x) := ⟨{ Framed.refl s with }, id⟩
  unfold supplySample
  simp only
  split
  · exact noted _
  · generalize s.supply.band.after v = band
    refine ((noted ⟨some v, band⟩).trans (queueEvent_quiet (bandRecord band v) _)).trans ?_
    split
    · exact (mapReg_quiet fun c => enterHold_kept _ _).trans (cancelTests_quiet _)
    · split
      · exact mapReg_quiet fun c => leaveHold_kept _ _ _ _ _
      · exact .refl _

end Sys2Proof.Machine

/-! PROOF. What every operation keeps: the clock, the queue of commands, and the invariants of the timers, the preview blocks,
the arbiters and the regulators. -/

namespace Sys2Proof.Machine

/-- What every operation keeps, the link aside. -/
structure Upholds (s t : State) : Prop where
  now : s.now ≤ t.now
  pending : t.pending = s.pending
  timers : s.TimersSound → t.TimersSound
  preview : s.TimersSound → s.PreviewSound → s.QueuesBounded → t.PreviewSound ∧ t.QueuesBounded
  arbiters : s.TimersSound → s.ArbitersSound → t.ArbitersSound
  regs : (∀ c, (s.reg.get c).Sound) → ∀ c, (t.reg.get c).Sound

/-- What an operation keeps that answers no request of its own. -/
structure Keeps (s t : State) : Prop extends Upholds s t where
  link : s.link.Kept t.link

theorem Upholds.refl (s : State) : Upholds s s := ⟨le_rfl, rfl, id, fun _ h hb => ⟨h, hb⟩, fun _ h => h, id⟩

theorem Keeps.refl (s : State) : Keeps s s := ⟨.refl s, .refl _⟩

theorem Upholds.trans {s t u : State} (h : Upholds s t) (h' : Upholds t u) : Upholds s u where
  now := h.now.trans h'.now
  pending := h'.pending.trans h.pending
  timers hs := h'.timers (h.timers hs)
  preview ht hp hb := h'.preview (h.timers ht) (h.preview ht hp hb).1 (h.preview ht hp hb).2
  arbiters ht ha := h'.arbiters (h.timers ht) (h.arbiters ht ha)
  regs hr := h'.regs (h.regs hr)

theorem Keeps.trans {s t u : State} (h : Keeps s t) (h' : Keeps t u) : Keeps s u :=
  ⟨h.toUpholds.trans h'.toUpholds, h.link.trans h'.link⟩

/-! ### The invariants of two states that agree -/

/-- The timers of two states alike in control, reset line, converter, period and silence timers. -/
theorem State.TimersSound.congr {s t : State} (h : s.TimersSound) (hr : t.resetLow = s.resetLow) (hc : t.control = s.control)
    (hv : t.conv = s.conv) (hp : ∀ c, (t.reg.get c).period.isSome = (s.reg.get c).period.isSome)
    (hw : ∀ f, (t.dist.wheel.get f).silence.isSome = (s.dist.wheel.get f).silence.isSome) : t.TimersSound := by
  obtain ⟨h1, h2, h3, h4, h5, h6, h7, h8, h9⟩ := h
  have cap : capturing t = capturing s := by simp only [capturing, hr, hc]
  have drv : t.driving = s.driving := by simp only [State.driving, hc]
  simp only [State.TimersSound, hr, hc, hv, hp, hw, cap, drv]
  exact ⟨h1, h2, h3, h4, h5, h6, h7, h8, h9⟩

theorem Framed.timers {s t : State} (h : Framed s t) (hs : s.TimersSound) : t.TimersSound :=
  State.TimersSound.congr hs h.resetLow h.control h.conv (fun c => (h.regs c).1) (fun f => by rw [h.dist])

theorem Quiet.keeps {s t : State} (h : Quiet s t) : Keeps s t where
  now := h.now
  pending := h.pending
  timers := h.toFramed.timers
  preview _ hp hb := by
    obtain ⟨hf, hr, hw⟩ := hp
    have cond : previewCondition t = previewCondition s := by simp only [previewCondition, h.control, h.dist]
    exact ⟨⟨by rw [h.flag, hf, cond], h.rests hr, fun hp => h.windows (h.control ▸ hp) (hw (h.control ▸ hp))⟩, h.bounded hb⟩
  arbiters _ := h.arbiters
  regs hr c := (h.regs c).2 (hr c)
  link := h.link

/-- The link plays no part in these invariants. -/
theorem setLink_upholds (l : LinkState) (s : State) : Upholds s (s.setLink l) :=
  ⟨le_rfl, rfl, id, fun _ h hb => ⟨h, hb⟩, fun _ h => h, id⟩

/-! ### The preview flag -/

theorem judgePreview_quiet (s : State) :
    Quiet (s.setPreview { s.preview with active := previewCondition s }) (judgePreview s) := by
  unfold judgePreview
  simp only
  split
  · exact flushPreview_quiet _
  · exact .refl _

/-- The flag judged: the preview blocks are sound if they rested and no window was open outside Running. -/
theorem judgePreview_sound {s : State} (hr : s.Rests) (hw : s.control.part ≠ .running → ∀ f, s.window.get f = none)
    (hb : s.QueuesBounded) : (judgePreview s).PreviewSound ∧ (judgePreview s).QueuesBounded := by
  have quiet := judgePreview_quiet s
  have cond : previewCondition (judgePreview s) = previewCondition s := by
    simp only [previewCondition, quiet.control, quiet.dist]; rfl
  refine ⟨⟨by rw [quiet.flag, cond]; rfl, fun ht => ?_, fun hp f => ?_⟩, quiet.bounded hb⟩
  · have off : previewCondition s = false := by rw [quiet.flag] at ht; exact ht
    cases ha : s.preview.active with
    | false => exact quiet.rests (fun _ => hr ha) ht
    | true =>
      obtain ⟨empty, -⟩ := flushPreview_flushed (s.setPreview { s.preview with active := previewCondition s })
      simp only [judgePreview, ha, off, Bool.not_false, Bool.and_self, if_true]
      rw [off] at empty
      exact ⟨fun c => (empty c).1, fun c => (empty c).2⟩
  · rw [quiet.control] at hp
    exact quiet.windows hp (hw hp) f

/-- The distance unit replaced and the flag judged: silence timers run on as they did. -/
theorem judgePreview_keeps {s u : State} {d : Distance}
    (hs : ∀ f, (d.wheel.get f).silence.isSome = (s.dist.wheel.get f).silence.isSome) (hu : Quiet (s.setDist d) u) :
    Keeps s (judgePreview u) := by
  have quiet := judgePreview_quiet u
  refine ⟨⟨hu.now.trans quiet.now, quiet.pending.trans hu.pending, fun ht => ?_, fun ht hp hb => ?_, fun _ ha => ?_,
    fun hr c => ?_⟩, hu.link.trans quiet.link⟩
  · exact quiet.toFramed.timers (hu.toFramed.timers (State.TimersSound.congr ht rfl rfl rfl (fun _ => rfl) hs))
  · obtain ⟨-, rests, windows⟩ := hp
    exact judgePreview_sound (hu.rests rests)
      (fun h => hu.windows (hu.control ▸ h) (windows (hu.control ▸ h))) (hu.bounded hb)
  · exact quiet.arbiters (hu.arbiters ha)
  · exact (quiet.regs c).2 ((hu.regs c).2 (hr c))

/-- The distance unit replaced, direction and DistanceLost as they were. -/
theorem setDist_keeps {s : State} {d : Distance}
    (hs : s.TimersSound → ∀ f, (d.wheel.get f).silence.isSome = capturing s) (hd : d.direction = s.dist.direction)
    (hl : d.lost = s.dist.lost) : Keeps s (s.setDist d) := by
  refine ⟨⟨le_rfl, rfl, fun ht => ?_, fun _ hp hb => ⟨?_, hb⟩, fun _ h => h, id⟩, .refl _⟩
  · obtain ⟨-, -, -, -, -, -, -, silences, -⟩ := id ht
    exact State.TimersSound.congr ht rfl rfl rfl (fun _ => rfl) fun f => (hs ht f).trans (silences f).symm
  · have cond : previewCondition (s.setDist d) = previewCondition s := by
      show (_ && decide (d.direction = .forward) && !d.lost) = _
      rw [hd, hl]; rfl
    exact ⟨hp.1.trans cond.symm, hp.2⟩

theorem evalDistanceLost_keeps (s : State) : Keeps s (evalDistanceLost s) := by
  unfold evalDistanceLost
  split
  · exact judgePreview_keeps (d := { s.dist with lost := true }) (fun f => rfl) (queueEvent_quiet _ _)
  · exact .refl s

theorem restoreDistance_keeps (w : Front) (s : State) : Keeps s (restoreDistance w s) := by
  unfold restoreDistance
  split
  · exact judgePreview_keeps (d := { s.dist with lost := false }) (fun f => rfl) (queueEvent_quiet _ _)
  · exact .refl s

theorem driveTimeout_keeps (s : State) : Keeps s (driveTimeout s) := by
  unfold driveTimeout
  split
  · exact .refl s
  · exact (Quiet.reachTime s _).keeps.trans
      (judgePreview_keeps (d := { s.dist with direction := .unknown, driveTimer := none }) (fun f => rfl) (.refl _))

/-! ### Wheels -/

theorem Wheel.pulse_silence (ring : Option Ring) (now : Nat) (stamp : Stamp) (w : Wheel) :
    (w.pulse ring now stamp).silence = some (now + silenceTime) := by
  unfold Wheel.pulse
  cases w.state <;> simp only
  split <;> rfl

theorem Wheel.silenced_silence (judged : Bool) (now : Nat) (w : Wheel) :
    (w.silenced judged now).silence = some (now + silenceTime) := by
  unfold Wheel.silenced
  cases w.state <;> rfl

/-- The silence timers after one wheel's is started and the other's count cleared. -/
theorem silence_isSome_set {p : PerFront Wheel} {w : Front} {me : Wheel} (n : Nat) {b : Bool}
    (hm : me.silence.isSome = b) (ho : (p.get w.other).silence.isSome = b) (f : Front) :
    (((p.set w me).set w.other { p.get w.other with cross := n }).get f).silence.isSome = b := by
  rw [PerFront.get_set, PerFront.get_set]
  split
  · exact ho
  · next h =>
    have : f = w := by cases f <;> cases w <;> first | rfl | exact absurd rfl h
    rw [if_pos this]; exact hm

theorem handSpeed_keeps (before : Nat) (record : Option Event) (s : State) : Keeps s (handSpeed before record s) :=
  (handSpeed_quiet before record s).keeps

theorem acceptPulse_keeps (w : Front) (stamp : Stamp) (s : State) (hc : capturing s = true) :
    Keeps s (acceptPulse w stamp s) := by
  unfold acceptPulse
  simp only
  generalize hd : ({ s.dist with
    wheel := (s.dist.wheel.set w ((s.dist.wheel.get w).pulse s.dist.ring s.now stamp)).set w.other
      { s.dist.wheel.get w.other with cross := 0 } } : Distance).withSpeed = d
  have pulsed : Keeps s (s.setDist d) := by
    subst hd
    refine setDist_keeps (fun ht f => ?_) rfl rfl
    obtain ⟨-, -, -, -, -, -, -, silences, -⟩ := id ht
    exact silence_isSome_set 0 (by rw [Wheel.pulse_silence, hc]; rfl) (silences _) f
  split
  · exact pulsed.trans (handSpeed_keeps ..)
  · have restored := pulsed.trans (restoreDistance_keeps w _)
    split
    · exact restored.trans (handSpeed_keeps ..)
    · refine restored.trans (.trans ?_ (advanceNotice_quiet _).keeps)
      refine setDist_keeps (fun ht f => ?_) rfl rfl
      obtain ⟨-, -, -, -, -, -, -, silences, -⟩ := id ht
      exact silences f

theorem wheelEdge_keeps (w : Front) (stamp : Stamp) (s : State) : Keeps s (wheelEdge w stamp s) := by
  have reached : Keeps s (s.reachStamp stamp) :=
    ⟨⟨Nat.le_add_right .., rfl, id, fun _ h hb => ⟨h, hb⟩, fun _ h => h, id⟩, .refl _⟩
  unfold wheelEdge
  simp only
  split
  · next h => exact reached.trans (acceptPulse_keeps w stamp _ (Bool.and_eq_true_iff.1 h).1)
  · exact reached

theorem silence_keeps (w : Front) (s : State) : Keeps s (silence w s) := by
  unfold silence
  simp only
  split
  · exact .refl s
  · next T hT =>
    refine (Quiet.reachTime s T).keeps.trans (.trans (.trans ?_ (handSpeed_keeps ..)) (evalDistanceLost_keeps _))
    refine setDist_keeps (fun ht f => ?_) rfl rfl
    obtain ⟨-, -, -, -, -, -, -, silences, -⟩ := id ht
    have running : capturing (s.reachTime T) = true := by rw [← silences w, State.reachTime_dist, hT]; rfl
    exact silence_isSome_set 0 (by rw [Wheel.silenced_silence, running]; rfl) (silences _) f

/-! ### Travel, converter, coils -/

/-- A sensing block replaced by one as Enabled as it was. -/
theorem setSensing_quiet {c : Corner} {x : Sensing} {s : State} (h : x.enabled = (s.sensing.get c).enabled) :
    Quiet s (s.setSensing c x) := by
  have enabled (d : Corner) : ((s.sensing.set c x).get d).enabled = (s.sensing.get d).enabled := by
    rw [PerCorner.get_set]
    split
    · next e => rw [e, h]
    · rfl
  refine ⟨{ Framed.refl s with enabled := enabled, arbiters := fun ha d => ?_ }, id⟩
  show Arbiter.Fits (s.driving && ((s.sensing.set c x).get d).enabled) _ _ _
  rw [enabled d]
  exact ha d

theorem handSample_quiet (c : Corner) (x v : Int) (s : State) (h : (s.sensing.get c).enabled = true) :
    Quiet s (handSample c x v s) := by
  unfold handSample
  split
  · exact guardSample_quiet c x v s h
  · next f _ =>
    rcases inEitherOrder_cases (guardSample c x v) (detectorSample f v) s with e | e <;> rw [e]
    · exact ((Quiet.spend s 1).trans (guardSample_quiet c x v _ h)).trans (detectorSample_quiet f v _)
    · have sampled := (Quiet.spend s 1).trans (detectorSample_quiet f v _)
      exact sampled.trans (guardSample_quiet c x v _ ((sampled.enabled c).trans h))

theorem goodSample_quiet (c : Corner) (raw : Nat) (s : State) (h : (s.sensing.get c).enabled = true) :
    Quiet s (goodSample c raw s) := by
  unfold goodSample
  simp only
  split
  · split
    · generalize hz : ({ s.sensing.get c with
        history := appendPosition ((s.sensing.get c).position raw) (s.sensing.get c).history, faulted := false,
        good := 0 } : Sensing) = z
      have same : z.enabled = (s.sensing.get c).enabled := by rw [← hz]
      have noted := (setSensing_quiet same).trans (queueEvent_quiet (event .sensorRecovered (some c) 0 0 raw) _)
      split
      · exact noted.trans (handSample_quiet c _ _ _ ((noted.enabled c).trans h))
      · exact noted
    · exact setSensing_quiet rfl
  · generalize hz : ({ s.sensing.get c with
      history := appendPosition ((s.sensing.get c).position raw) (s.sensing.get c).history, bad := 0 } : Sensing) = z
    have same : z.enabled = (s.sensing.get c).enabled := by rw [← hz]
    have noted := setSensing_quiet (c := c) same
    split
    · exact noted.trans (handSample_quiet c _ _ _ ((noted.enabled c).trans h))
    · exact noted

theorem sensorFaultNotice_quiet (c : Corner) (s : State) : Quiet s (sensorFaultNotice c s) := by
  unfold sensorFaultNotice
  split
  · exact releaseGuard_quiet c s
  · exact (releaseGuard_quiet c s).trans (setWindow_none_quiet _ _)

theorem badSample_quiet (c : Corner) (raw : Nat) (s : State) : Quiet s (badSample c raw s) := by
  unfold badSample
  simp only
  split
  · exact setSensing_quiet rfl
  · split
    · refine .trans ?_ (sensorFaultNotice_quiet c _)
      refine .trans ?_ (queueEvent_quiet _ _)
      exact setSensing_quiet rfl
    · exact setSensing_quiet rfl

theorem travelSample_quiet (c : Corner) (raw : Nat) (s : State) : Quiet s (travelSample c raw s) := by
  unfold travelSample
  split
  · exact .refl s
  · next h =>
    split
    · exact goodSample_quiet c raw s (by simp_all)
    · exact badSample_quiet c raw s

/-- The scan position moves on only within a scan, which Parked does not know. -/
theorem setConv_keeps {s : State} {x : Converter} (ht : x.timer.isSome = s.conv.timer.isSome)
    (hp : s.TimersSound → s.control.part ≠ .parked) : Keeps s (s.setConv x) := by
  refine ⟨⟨le_rfl, rfl, fun h => ?_, fun _ h hb => ⟨h, hb⟩, fun _ h => h, id⟩, .refl _⟩
  have awake := hp h
  obtain ⟨h1, h2, h3, h4, h5, -, h7, h8, h9⟩ := h
  exact ⟨h1, h2, h3, h4, ht.trans h5, fun e => absurd e awake, h7, h8, h9⟩

/-- A scan under way keeps the part out of Parked. -/
theorem awake_of_scanning {s : State} (h : s.conv.pos ≠ .idle) (ht : s.TimersSound) : s.control.part ≠ .parked := by
  obtain ⟨-, -, -, -, -, h6, -, -, -⟩ := ht
  exact fun e => h (h6 e)

theorem travelDone_keeps (raw : Count) (s : State) : Keeps s (travelDone raw s) := by
  unfold travelDone
  split
  · next c hc =>
    exact (setConv_keeps (x := { s.conv with pos := s.conv.pos.next }) rfl (awake_of_scanning (by simp [hc]))).trans
      (travelSample_quiet c _ _).keeps
  · exact .refl s
  · exact .refl s

theorem vbatDone_keeps (raw : Count) (s : State) : Keeps s (vbatDone raw s) := by
  unfold vbatDone
  split
  · next hc =>
    exact (setConv_keeps (x := { s.conv with pos := s.conv.pos.next }) rfl (awake_of_scanning (by simp [hc]))).trans
      (supplySample_quiet _ _).keeps
  · exact .refl s
  · exact .refl s

theorem beginScan_keeps (s : State) : Keeps s (beginScan s) := by
  unfold beginScan
  split
  · exact .refl s
  · next T hT =>
    refine (Quiet.reachTime s T).keeps.trans (setConv_keeps (by simp [hT]) fun ht e => ?_)
    obtain ⟨-, -, -, -, h5, -, -, -, -⟩ := ht
    rw [e, State.reachTime_conv, hT] at h5
    simp at h5

theorem holdExpiry_quiet (c : Corner) (s : State) : Quiet s (holdExpiry c s) := by
  unfold holdExpiry
  split
  · exact .refl s
  · next T _ =>
    refine .trans ?_ (releaseGuard_quiet c _)
    exact (Quiet.reachTime s T).trans (setGuard_quiet rfl)

theorem probeTimerDone_quiet (c : Corner) (s : State) : Quiet s (probeTimerDone c s) := by
  unfold probeTimerDone
  split
  · exact .refl s
  · exact (Quiet.reachTime s _).trans (setReg_quiet (.refl _))

theorem applyTimeDone_quiet (c : Corner) (s : State) : Quiet s (applyTimeDone c s) := by
  unfold applyTimeDone
  split
  · exact .refl s
  · exact (Quiet.reachTime s _).trans (setReg_quiet (applyPending_kept _ _))

theorem recoveryDone_quiet (c : Corner) (s : State) : Quiet s (recoveryDone c s) := by
  unfold recoveryDone
  split
  · exact .refl s
  · exact (Quiet.reachTime s _).trans (setReg_quiet (.refl _))

end Sys2Proof.Machine

/-! PROOF. What the hand-overs to arbiter, mapper and regulator leave, as equations, one corner after another (chapters 5, 6
and 9). -/

namespace Sys2Proof.Machine

/-! ### One hand-over -/

/-- What an arbiter about to resolve hands on to its mapper and regulator; an Idle one hands on nothing. -/
def Arbiter.handed (g : Regulation) (now : Nat) (a : Arbiter) (o : Mapper × Regulator) : Mapper × Regulator :=
  if a.active then handOn g now a.resolved a.winner.2 o else o

/-- Everything a resolution does, at its own corner only. -/
theorem resolve_eq (c : Corner) (s : State) : resolve c s = { s with
    arbiter := s.arbiter.set c (s.arbiter.get c).settled,
    mapper := s.mapper.set c ((s.arbiter.get c).handed s.regulation s.now (s.outputs c)).1,
    reg := s.reg.set c ((s.arbiter.get c).handed s.regulation s.now (s.outputs c)).2 } := by
  have outputs := resolve_outputs c s
  obtain ⟨m, r, -, frame⟩ := resolve_frame c s
  rw [frame] at outputs
  have handed : (m, r) = (s.arbiter.get c).handed s.regulation s.now (s.outputs c) := by
    simpa [State.outputs, Arbiter.handed] using outputs
  rw [frame, ← handed]
  rfl

/-- An arbiter replaced and resolved. -/
theorem resolve_setArbiter (c : Corner) (a : Arbiter) (s : State) : resolve c (s.setArbiter c a) = { s with
    arbiter := s.arbiter.set c a.settled,
    mapper := s.mapper.set c (a.handed s.regulation s.now (s.outputs c)).1,
    reg := s.reg.set c (a.handed s.regulation s.now (s.outputs c)).2 } := by
  rw [resolve_eq]
  simp [State.setArbiter, State.outputs]

theorem handOn_self (g : Regulation) (now : Nat) (d : Option Nat) (o : Mapper × Regulator) :
    handOn g now d d o = o := by
  unfold handOn
  split
  · simp
  · rfl

theorem handOn_kept (g : Regulation) (now : Nat) (old new : Option Nat) (o : Mapper × Regulator) :
    o.2.Kept (handOn g now old new o).2 := by
  unfold handOn
  split
  · split
    · exact .refl _
    · exact Handed.kept (.inr ⟨_, rfl⟩)
  · exact .refl _

theorem Arbiter.handed_kept (g : Regulation) (now : Nat) (a : Arbiter) (o : Mapper × Regulator) :
    o.2.Kept (a.handed g now o).2 := by
  unfold Arbiter.handed
  split
  · exact handOn_kept ..
  · exact .refl _

@[simp] theorem Arbiter.settled_idle {a : Arbiter} (h : a.active = false) : a.settled = a := by
  simp [Arbiter.settled, h]

theorem Arbiter.settled_of_active {a : Arbiter} (h : a.active = true) :
    a.settled = { a with level := some a.winner.1, resolved := a.winner.2 } := by simp [Arbiter.settled, h]

/-! ### A context emptied (R68) -/

/-- The arbiter of a corner whose context, if it has one, is emptied. -/
def Arbiter.emptied (x : Option Context) (a : Arbiter) : Arbiter :=
  if x.isSome then ({ a with preview := none } : Arbiter).settled else a

/-- The mapper and the regulator of a corner whose context, if it has one, is emptied. -/
def emptiedOutputs (g : Regulation) (now : Nat) (x : Option Context) (a : Arbiter) (o : Mapper × Regulator) :
    Mapper × Regulator :=
  if x.isSome then ({ a with preview := none } : Arbiter).handed g now o else o

theorem emptyContext_explicit (c : Corner) (s : State) : emptyContext c s = { s with
    context := s.context.set c none,
    arbiter := s.arbiter.set c ((s.arbiter.get c).emptied (s.context.get c)),
    mapper := s.mapper.set c
      (emptiedOutputs s.regulation s.now (s.context.get c) (s.arbiter.get c) (s.outputs c)).1,
    reg := s.reg.set c
      (emptiedOutputs s.regulation s.now (s.context.get c) (s.arbiter.get c) (s.outputs c)).2 } := by
  cases hx : s.context.get c with
  | none =>
    have same : s.context.set c none = s.context := by rw [← hx, PerCorner.set_get]
    simp [emptyContext, hx, Arbiter.emptied, emptiedOutputs, State.outputs, same]
  | some x =>
    have running : emptyContext c s = handPreview c none (s.setContext c none) := by rw [emptyContext, hx]
    rw [running, handPreview, resolve_setArbiter]
    rfl

theorem emptiedOutputs_kept (g : Regulation) (now : Nat) (x : Option Context) (a : Arbiter) (o : Mapper × Regulator) :
    o.2.Kept (emptiedOutputs g now x a o).2 := by
  unfold emptiedOutputs
  split
  · exact Arbiter.handed_kept ..
  · exact .refl _

/-! ### Entry to Failsafe: an emptied context and the failsafe form, in either order (R78) -/

/-- What a corner's arbiter, mapper and regulator are after its context is emptied and FailsafeDemand is handed over. -/
def FailsafeTaken (g : Regulation) (now : Nat) (x : Option Context) (a : Arbiter) (o : Mapper × Regulator) (d : Nat)
    (a' : Arbiter) (o' : Mapper × Regulator) : Prop :=
  ∀ b : Arbiter, b = (if x.isSome then { a with preview := none } else a) →
    a' = (if b.active then { b with failsafe := some d, level := some .failsafe, resolved := some d } else b) ∧
    (b.active = false → o' = o) ∧
    (b.active = true → o' = handOn g now a.resolved (some d) o ∨
      (x.isSome = true ∧ o' = handOn g now b.winner.2 (some d) (handOn g now a.resolved b.winner.2 o)))

/-- The context emptied first. -/
theorem failsafeTaken_emptied (g : Regulation) (now : Nat) (x : Option Context) (a : Arbiter) (o : Mapper × Regulator)
    (d : Nat) : FailsafeTaken g now x a o d ((a.emptied x).handedFailsafe (some d))
      (failsafeOutputs g now (some d) (a.emptied x) (emptiedOutputs g now x a o)) := by
  rintro b rfl
  cases ha : a.active <;> cases x <;>
    simp [Arbiter.emptied, emptiedOutputs, Arbiter.handedFailsafe, failsafeOutputs, Arbiter.handed, Arbiter.settled,
      Arbiter.winner, ha]

/-- The failsafe form handed over first. -/
theorem failsafeTaken_handed (g : Regulation) (now : Nat) (x : Option Context) (a : Arbiter) (o : Mapper × Regulator)
    (d : Nat) : FailsafeTaken g now x a o d ((a.handedFailsafe (some d)).emptied x)
      (emptiedOutputs g now x (a.handedFailsafe (some d)) (failsafeOutputs g now (some d) a o)) := by
  rintro b rfl
  cases ha : a.active <;> cases x <;>
    simp [Arbiter.emptied, emptiedOutputs, Arbiter.handedFailsafe, failsafeOutputs, Arbiter.handed, Arbiter.settled,
      Arbiter.winner, ha, handOn_self]

theorem failsafeCorner_eq (c : Corner) (d : Nat) (s : State) : ∃ a o,
    FailsafeTaken s.regulation s.now (s.context.get c) (s.arbiter.get c) (s.outputs c) d a o ∧
    inEitherOrder (emptyContext c) (handFailsafe c (some d)) s = { s with
      choices := s.choices + 1, context := s.context.set c none, arbiter := s.arbiter.set c a,
      mapper := s.mapper.set c o.1, reg := s.reg.set c o.2 } := by
  rcases inEitherOrder_cases (emptyContext c) (handFailsafe c (some d)) s with h | h
  · refine ⟨_, _, failsafeTaken_emptied s.regulation s.now (s.context.get c) (s.arbiter.get c) (s.outputs c) d, ?_⟩
    rw [h, emptyContext_explicit, handFailsafe_eq]
    simp [State.outputs, State.spend]
  · refine ⟨_, _, failsafeTaken_handed s.regulation s.now (s.context.get c) (s.arbiter.get c) (s.outputs c) d, ?_⟩
    rw [h, handFailsafe_eq, emptyContext_explicit]
    simp [State.outputs, State.spend]

/-- Each corner takes the failsafe form on its own. -/
theorem failsafeAll_eq (s : State) : ∃ (a : PerCorner Arbiter) (m : PerCorner Mapper) (r : PerCorner Regulator),
    (∀ k, FailsafeTaken s.regulation s.now (s.context.get k) (s.arbiter.get k) (s.outputs k) s.control.failsafeDemand
      (a.get k) (m.get k, r.get k)) ∧
    Corner.list.foldl (fun t c => inEitherOrder (emptyContext c) (handFailsafe c (some t.control.failsafeDemand)) t) s =
      { s with choices := s.choices + 4, context := PerCorner.all none, arbiter := a, mapper := m, reg := r } := by
  simp only [Corner.list, List.foldl]
  obtain ⟨a1, ⟨m1, r1⟩, h1, e1⟩ := failsafeCorner_eq .fl s.control.failsafeDemand s
  rw [e1]
  generalize hs1 : State.mk .. = s1
  obtain ⟨a2, ⟨m2, r2⟩, h2, e2⟩ := failsafeCorner_eq .fr s1.control.failsafeDemand s1
  rw [e2]
  generalize hs2 : State.mk .. = s2
  obtain ⟨a3, ⟨m3, r3⟩, h3, e3⟩ := failsafeCorner_eq .rl s2.control.failsafeDemand s2
  rw [e3]
  generalize hs3 : State.mk .. = s3
  obtain ⟨a4, ⟨m4, r4⟩, h4, e4⟩ := failsafeCorner_eq .rr s3.control.failsafeDemand s3
  rw [e4]
  subst hs1
  subst hs2
  subst hs3
  refine ⟨⟨a1, a2, a3, a4⟩, ⟨m1, m2, m3, m4⟩, ⟨r1, r2, r3, r4⟩, fun k => ?_, rfl⟩
  cases k
  exacts [h1, h2, h3, h4]

/-- Everything the entry to Failsafe does (R78, R159). -/
theorem enterFailsafe_eq (fc : FailCause) (cause : Cause) (tag : Byte) (s : State) :
    ∃ (a : PerCorner Arbiter) (m : PerCorner Mapper) (r : PerCorner Regulator),
    (∀ k, FailsafeTaken s.regulation s.now (s.context.get k) (s.arbiter.get k) (s.outputs k) s.control.failsafeDemand
      (a.get k) (m.get k, r.get k)) ∧
    enterFailsafe fc cause tag s = { s with
      choices := s.choices + 4,
      control := { s.control with part := .failsafe, cause := some fc, demandTimer := none },
      preview := { s.preview with active := false }, window := ⟨none, none⟩, queue := PerCorner.all [],
      context := PerCorner.all none, arbiter := a, mapper := m, reg := r,
      link := s.link.record (event .stateChanged none 3 cause.code tag.toNat) } := by
  obtain ⟨a, m, r, h, e⟩ := failsafeAll_eq { s with
    control := { s.control with part := .failsafe, cause := some fc, demandTimer := none },
    preview := { s.preview with active := false }, window := ⟨none, none⟩, queue := PerCorner.all [],
    link := s.link.record (event .stateChanged none 3 cause.code tag.toNat) }
  exact ⟨a, m, r, h, e⟩

/-! ### Entry to Running by Start (R77, R156) -/

/-- The arbiter an Enabled corner begins Running with, before it resolves. -/
def Arbiter.begun (d : Nat) : Arbiter := { Arbiter.reset with active := true, stored := some d }

theorem startArbiter_eq (c : Corner) (s : State) : startArbiter c s = { s with
    arbiter := s.arbiter.set c (if (s.sensing.get c).enabled then
      (Arbiter.begun (s.control.defaultDemand.get c)).settled else s.arbiter.get c),
    mapper := s.mapper.set c (if (s.sensing.get c).enabled then
      ((Arbiter.begun (s.control.defaultDemand.get c)).handed s.regulation s.now (s.outputs c)).1 else s.mapper.get c),
    reg := s.reg.set c (if (s.sensing.get c).enabled then
      ((Arbiter.begun (s.control.defaultDemand.get c)).handed s.regulation s.now (s.outputs c)).2
      else s.reg.get c) } := by
  unfold startArbiter
  by_cases h : (s.sensing.get c).enabled
  · simp only [h, if_true]
    exact resolve_setArbiter c (Arbiter.begun _) s
  · simp [h]

/-- The mapper and the regulator of a corner once its arbiter has begun. -/
def State.begunOutputs (s : State) (c : Corner) : Mapper × Regulator :=
  if (s.sensing.get c).enabled then
    (Arbiter.begun (s.control.defaultDemand.get c)).handed s.regulation s.now (s.outputs c)
  else s.outputs c

theorem startArbiter_all (s : State) : Corner.list.foldl (fun t c => startArbiter c t) s = { s with
    arbiter := s.arbiter.mapIdx fun c a => if (s.sensing.get c).enabled then
      (Arbiter.begun (s.control.defaultDemand.get c)).settled else a,
    mapper := s.mapper.mapIdx fun c _ => (s.begunOutputs c).1,
    reg := s.reg.mapIdx fun c _ => (s.begunOutputs c).2 } := by
  have own (c : Corner) (t : State) : startArbiter c t = { t with
      arbiter := t.arbiter.set c (if (t.sensing.get c).enabled then
        (Arbiter.begun (t.control.defaultDemand.get c)).settled else t.arbiter.get c),
      mapper := t.mapper.set c (t.begunOutputs c).1, reg := t.reg.set c (t.begunOutputs c).2 } := by
    rw [startArbiter_eq]
    unfold State.begunOutputs
    split <;> simp [State.outputs]
  simp only [Corner.list, List.foldl, own]
  rfl

/-- A regulator at a Start, its target handed already (R112, R141, R147). -/
def State.startedReg (s : State) (c : Corner) (r : Regulator) : Regulator :=
  if (s.sensing.get c).enabled then startRegulator s.regulation s.supply.band c s.now (abandonTest r) else abandonTest r

theorem State.startedReg_kept (s : State) (c : Corner) (r : Regulator) : r.Kept (s.startedReg c r) := by
  unfold State.startedReg
  split
  · exact (abandonTest_kept r).trans (startRegulator_kept ..)
  · exact abandonTest_kept r

/-- The state in which Start judges the preview flag. -/
def State.begun (tag : Byte) (s : State) : State := { s with
  control := { s.control with part := .running, demandTimer := some (s.now + 1000 * s.control.demandTimeout) },
  arbiter := s.arbiter.mapIdx fun c a => if (s.sensing.get c).enabled then
    (Arbiter.begun (s.control.defaultDemand.get c)).settled else a,
  mapper := s.mapper.mapIdx fun c _ => (s.begunOutputs c).1,
  reg := s.reg.mapIdx fun c _ => s.startedReg c (s.begunOutputs c).2,
  link := s.link.record (event .stateChanged none 2 1 tag.toNat) }

theorem enterRunning_eq (tag : Byte) (s : State) : enterRunning tag s = cancelTests (judgePreview (s.begun tag)) := by
  unfold enterRunning
  simp only [startArbiter_all]
  rfl

theorem State.begunOutputs_kept (s : State) (c : Corner) : (s.reg.get c).Kept (s.begunOutputs c).2 := by
  unfold State.begunOutputs
  split
  · exact Arbiter.handed_kept ..
  · exact .refl _

/-! ### Return to Running (R79, R160) -/

theorem failsafeOutputs_kept (g : Regulation) (now : Nat) (f : Option Nat) (a : Arbiter) (o : Mapper × Regulator) :
    o.2.Kept (failsafeOutputs g now f a o).2 := by
  unfold failsafeOutputs
  split
  · exact handOn_kept ..
  · exact .refl _

theorem Arbiter.handedFailsafe_eq (f : Option Nat) (a : Arbiter) :
    a.handedFailsafe f = if a.active then ({ a with failsafe := f } : Arbiter).settled else a := by
  unfold Arbiter.handedFailsafe Arbiter.settled
  split <;> simp_all

end Sys2Proof.Machine

/-! PROOF. What resets and changes of the part state keep (chapter 9). -/

namespace Sys2Proof.Machine

/-! ### Resets -/

/-- The part right after a reset is sound in every way, whenever the reset ends. -/
theorem resetAt_sound (now choices : Nat) (pending : List Instr) (low : Bool) :
    (State.resetAt now choices pending low).link.Sound ∧ (∀ c, ((State.resetAt now choices pending low).reg.get c).Sound) ∧
    (State.resetAt now choices pending low).PreviewSound ∧ (State.resetAt now choices pending low).QueuesBounded ∧
    (State.resetAt now choices pending low).TimersSound ∧ (State.resetAt now choices pending low).ArbitersSound := by
  refine ⟨?link, ?regs, ?preview, ?queues, ?timers, ?arbiters⟩
  case link => simp [LinkState.Sound, State.resetAt, LinkState.reset, Corner.list]
  case regs => intro c; simp [Regulator.Sound, State.resetAt, Regulator.reset, Mode.fixedDuty, testDuty, resetREst]
  case preview =>
    refine ⟨rfl, fun _ => ⟨fun c => ?_, fun c => ?_⟩, fun _ f => ?_⟩
    · cases c <;> rfl
    · cases c <;> rfl
    · cases f <;> rfl
  case queues => intro c; simp [State.resetAt]
  case timers =>
    have wheels (f : Front) : ((Distance.reset now).wheel.get f).silence = some (now + silenceTime) := by cases f <;> rfl
    refine ⟨rfl, rfl, nofun, nofun, rfl, nofun, fun c => ?_, fun f => ?_, nofun⟩
    · cases c <;> rfl
    · show ((Distance.reset now).wheel.get f).silence.isSome = _
      rw [wheels f]; rfl
  case arbiters =>
    intro c
    simp [State.resetAt, Arbiter.reset, Guard.reset, Sensing.reset]

/-- The same while RESETN is low. -/
theorem holdReset_sound (s : State) : (holdReset s).link.Sound ∧ (∀ c, ((holdReset s).reg.get c).Sound) ∧
    (holdReset s).PreviewSound ∧ (holdReset s).QueuesBounded ∧ (holdReset s).TimersSound ∧ (holdReset s).ArbitersSound := by
  obtain ⟨link, -, preview, queues, -, arbiters⟩ := resetAt_sound s.now s.choices s.pending s.link.selnLow
  refine ⟨link, fun c => ?_, preview, queues, ?_, arbiters⟩
  · simp [Regulator.Sound, holdReset, beginStarting, State.resetAt, Regulator.reset, Mode.fixedDuty, resetREst]
  · have wheels (f : Front) : ((holdReset s).dist.wheel.get f).silence = none := by cases f <;> rfl
    refine ⟨rfl, rfl, nofun, nofun, rfl, nofun, fun c => ?_, fun f => ?_, fun _ => rfl⟩
    · cases c <;> rfl
    · rw [wheels f]; rfl

theorem beginStarting_upholds (s : State) : Upholds s (beginStarting s) := by
  obtain ⟨-, regs, preview, queues, timers, arbiters⟩ := resetAt_sound s.now s.choices s.pending s.link.selnLow
  exact ⟨le_rfl, rfl, fun _ => timers, fun _ _ _ => ⟨preview, queues⟩, fun _ _ => arbiters, fun _ => regs⟩

theorem holdReset_upholds (s : State) : Upholds s (holdReset s) := by
  obtain ⟨-, regs, preview, queues, timers, arbiters⟩ := holdReset_sound s
  exact ⟨le_rfl, rfl, fun _ => timers, fun _ _ _ => ⟨preview, queues⟩, fun _ _ => arbiters, fun _ => regs⟩

theorem powerUp_upholds (s : State) : Upholds s (powerUp s) := by
  unfold powerUp
  split
  · exact holdReset_upholds s
  · exact beginStarting_upholds s

theorem resetEdge_upholds (s : State) : Upholds s (resetEdge s) := by
  unfold resetEdge
  split
  · exact beginStarting_upholds s
  · exact holdReset_upholds s

theorem restartPart_upholds (tag : Byte) (s : State) : Upholds s (restartPart tag s) := by
  unfold restartPart
  simp only
  refine .trans ?_ (setLink_upholds _ _)
  split
  · exact (beginStarting_upholds s).trans (setLink_upholds _ _)
  · exact beginStarting_upholds s

/-! ### The controller's own fields -/

/-- The controller's settings or timers change, the part state does not. -/
theorem setControl_keeps {s : State} {x : Control} (hp : x.part = s.control.part)
    (hf : s.control.part = .failsafe → x.failsafeDemand = s.control.failsafeDemand)
    (ht : s.TimersSound → (s.setControl x).TimersSound) : Keeps s (s.setControl x) := by
  have drv : (s.setControl x).driving = s.driving := by simp only [State.driving, State.setControl_control, hp]
  have form : x.failsafeForm = s.control.failsafeForm := by
    unfold Control.failsafeForm
    rw [hp]
    split
    · next h => rw [hf h]
    · rfl
  refine ⟨⟨le_rfl, rfl, ht, fun _ h hb => ⟨?_, hb⟩, fun _ ha c => ?_, id⟩, .refl _⟩
  · have cond : previewCondition (s.setControl x) = previewCondition s := by
      simp only [previewCondition, State.setControl_control, hp]; rfl
    exact ⟨h.1.trans cond.symm, h.2.1, fun e => h.2.2 (hp ▸ e)⟩
  · show Arbiter.Fits ((s.setControl x).driving && _) x.failsafeForm _ _
    rw [drv, form]
    exact ha c

/-- The part state changes between two in which the part neither runs nor drives. -/
theorem setControl_idle_keeps {s : State} {x : Control}
    (ht : s.TimersSound → (s.setControl x).TimersSound ∧ s.driving = false ∧ (s.setControl x).driving = false) :
    Keeps s (s.setControl x) := by
  refine ⟨⟨le_rfl, rfl, fun h => (ht h).1, fun h hp hb => ⟨?_, hb⟩, fun h ha c => ?_, id⟩, .refl _⟩
  · obtain ⟨-, before, after⟩ := ht h
    simp [State.driving] at before after
    have off : s.preview.active = false := by simp [hp.1, previewCondition, before]
    exact ⟨by simp [off, previewCondition, after], hp.2.1, fun _ => hp.2.2 before.1⟩
  · obtain ⟨-, before, after⟩ := ht h
    have fits : s.ArbiterFits c := ha c
    unfold State.ArbiterFits at fits
    rw [before] at fits
    show Arbiter.Fits ((s.setControl x).driving && _) _ _ _
    rw [after]
    exact fits.anyForm _

theorem demandNotice_keeps (s : State) : Keeps s (demandNotice s) := by
  unfold demandNotice
  split
  · next hd =>
    refine setControl_keeps rfl (fun _ => rfl) ?_
    rintro ⟨h1, h2, -, -, h5, h6, h7, h8, h9⟩
    exact ⟨h1, h2, fun _ => hd, fun _ => rfl, h5, h6, h7, h8, h9⟩
  · exact .refl s

/-! ### The ends of Starting and Waking, and the wake -/

/-- The start timer runs in Starting only, with RESETN high. -/
theorem State.TimersSound.starting {s : State} {T : Nat} (h : s.TimersSound) (hT : s.control.startTimer = some T) :
    s.control.part = .starting ∧ s.resetLow = false := by
  obtain ⟨h1, -⟩ := h
  simpa [hT] using h1.symm

/-- The wake timer runs in Waking only, with RESETN high. -/
theorem State.TimersSound.waking {s : State} {T : Nat} (h : s.TimersSound) (hT : s.control.wakeTimer = some T) :
    s.control.part = .waking ∧ s.resetLow = false := by
  obtain ⟨-, h2, -, -, -, -, -, -, h9⟩ := h
  have part : s.control.part = .waking := by simpa [hT] using h2.symm
  refine ⟨part, Bool.eq_false_iff.2 fun low => ?_⟩
  have := h9 low
  rw [part] at this
  cases this

/-- The demand timer is stopped where the part does not drive. -/
theorem State.TimersSound.stopped {s : State} (h : s.TimersSound) (hd : s.driving = false) : s.control.demandTimer = none := by
  obtain ⟨-, -, h3, -⟩ := h
  by_contra running
  rw [h3 (Option.isSome_iff_ne_none.2 running)] at hd
  cases hd

theorem endStarting_keeps (s : State) : Keeps s (endStarting s) := by
  unfold endStarting
  split
  · exact .refl s
  · next T hT =>
    refine (Quiet.reachTime s T).keeps.trans (.trans ?_ (queueEvent_quiet _ _).keeps)
    generalize hs : s.reachTime T = u
    have hu : u.control.startTimer = some T := by rw [← hs]; exact hT
    refine setControl_idle_keeps fun h => ?_
    obtain ⟨starting, high⟩ := h.starting hu
    have drv : u.driving = false := by simp [State.driving, starting]
    have stopped := h.stopped drv
    obtain ⟨-, h2, -, -, h5, -, h7, h8, -⟩ := h
    simp_all [State.TimersSound, capturing, State.driving]

theorem wakePart_keeps {s : State} (hp : s.control.part = .parked) (hr : s.resetLow = false) :
    Keeps s (wakePart s) := by
  have drv : s.driving = false := by simp [State.driving, hp]
  let u : State := (s.setControl { s.control with
    part := .waking, cause := none, wakeTimer := some (s.now + wakeTime) }).setConv
      { s.conv with timer := some (s.now + scanTime) }
  have woken : Keeps s u := by
    have ctl : s.TimersSound → u.TimersSound := by
      intro h
      have stopped := h.stopped drv
      obtain ⟨h1, -, -, -, h5, h6, h7, h8, -⟩ := h
      simp_all [u, State.TimersSound, capturing, State.driving]
    refine ⟨⟨le_rfl, rfl, ctl, fun _ h hb => ⟨?_, hb⟩, fun _ ha c => ?_, id⟩, .refl _⟩
    · have off : s.preview.active = false := by simp [h.1, previewCondition, hp]
      exact ⟨by simp [u, off, previewCondition], h.2.1, fun _ => h.2.2 (by simp [hp])⟩
    · have fits : s.ArbiterFits c := ha c
      simp only [State.ArbiterFits, drv, Bool.false_and] at fits
      exact fits.anyForm _
  exact woken.trans (queueEvent_quiet (event .stateChanged none 5 7 (0 : Byte).toNat) u).keeps

theorem endWaking_keeps (s : State) : Keeps s (endWaking s) := by
  unfold endWaking
  split
  · exact .refl s
  · next T hT =>
    refine (Quiet.reachTime s T).keeps.trans ?_
    generalize hs : s.reachTime T = u
    have hu : u.control.wakeTimer = some T := by rw [← hs]; exact hT
    clear hT hs s
    refine ⟨⟨le_rfl, rfl, fun h => ?_, fun h hp hb => ⟨?_, hb⟩, fun h ha c => ?_, fun hr c => ?_⟩, LinkState.record_kept ..⟩
    · obtain ⟨part, high⟩ := h.waking hu
      have stopped := h.stopped (by simp [State.driving, part])
      obtain ⟨h1, h2, h3, h4, h5, h6, h7, h8, h9⟩ := h
      refine ⟨?_, ?_, ?_, ?_, ?_, ?_, fun c => ?_, fun f => ?_, ?_⟩
      case refine_7 => simp [changePart, queueEvent, capturing, high]
      case refine_8 => cases f <;> simp [changePart, queueEvent, capturing, high, PerFront.get]
      all_goals simp_all [changePart, queueEvent]
    · obtain ⟨part, -⟩ := h.waking hu
      have off : u.preview.active = false := by simp [hp.1, previewCondition, part]
      exact ⟨by simp [off, previewCondition, changePart, queueEvent], hp.2.1, fun _ => hp.2.2 (by simp [part])⟩
    · obtain ⟨part, -⟩ := h.waking hu
      have fits : u.ArbiterFits c := ha c
      have drv : u.driving = false := by simp [State.driving, part]
      simp only [State.ArbiterFits, drv, Bool.false_and] at fits
      have idle := fits.idle rfl
      have inactive := fits.1
      simp_all [changePart, queueEvent, State.driving]
    · rw [PerCorner.get_mapIdx]
      exact hr c

end Sys2Proof.Machine

/-! PROOF. What Start, Halt, Resume, Stop and Park keep, then every request, every command and every step. -/

namespace Sys2Proof.Machine

/-! ### Into and out of Running -/

/-- A part in Configuring, Running or Failsafe: RESETN is high, and the start and wake timers are stopped. -/
theorem State.TimersSound.listening {s : State} (h : s.TimersSound) (hp : s.control.part = .configuring ∨ s.driving = true) :
    s.resetLow = false ∧ s.control.startTimer = none ∧ s.control.wakeTimer = none ∧ s.conv.timer.isSome = true ∧
      capturing s = true := by
  obtain ⟨h1, h2, -, -, h5, -, -, -, h9⟩ := h
  have part : s.control.part = .configuring ∨ s.control.part = .running ∨ s.control.part = .failsafe := by
    simpa [State.driving] using hp
  have high : s.resetLow = false := by
    refine Bool.eq_false_iff.2 fun low => ?_
    have := h9 low
    rcases part with h | h | h <;> rw [h] at this <;> cases this
  rcases part with h | h | h <;> simp_all [capturing]

/-- An arbiter that begins Running fits beside a Released guard. -/
theorem Arbiter.begun_fits (d : Nat) {g : Guard} (h : g.engaged = none) : (Arbiter.begun d).settled.Fits true none g :=
  Arbiter.settled_fits rfl (fun _ => ⟨rfl, rfl, by rw [h]; rfl⟩) (fun h => by cases h)

theorem enterRunning_keeps {s : State} (tag : Byte) (hp : s.control.part = .configuring) :
    Keeps s (enterRunning tag s) := by
  rw [enterRunning_eq]
  refine .trans ?_ (cancelTests_quiet _).keeps
  have flag := judgePreview_quiet (s.begun tag)
  have regs (c : Corner) : (s.reg.get c).Kept ((s.begun tag).reg.get c) := by
    rw [State.begun, PerCorner.get_mapIdx]
    exact (s.begunOutputs_kept c).trans (s.startedReg_kept c _)
  have drv : s.driving = false := by simp [State.driving, hp]
  refine ⟨⟨flag.now, flag.pending, fun h => flag.toFramed.timers ?_, fun h hpv hb => ?_, fun h ha => flag.arbiters fun c => ?_,
    fun hr c => (flag.regs c).2 ((regs c).2 (hr c))⟩, .trans (LinkState.record_kept ..) flag.link⟩
  · obtain ⟨high, start, wake, conv, cap⟩ := h.listening (.inl hp)
    obtain ⟨-, -, -, -, -, -, h7, h8, -⟩ := h
    refine ⟨?_, ?_, fun _ => rfl, fun _ => rfl, ?_, nofun, fun c => ?_, fun f => ?_, fun low => ?_⟩
    · simp [State.begun, State.setPreview, start]
    · simp [State.begun, State.setPreview, wake]
    · simp [State.begun, State.setPreview, high, conv]
    · exact ((regs c).1.trans ((h7 c).trans cap)).trans (by simp [State.begun, State.setPreview, capturing, high])
    · exact ((h8 f).trans cap).trans (by simp [State.begun, State.setPreview, capturing, high])
    · exact absurd (show s.resetLow = true from low) (by simp [high])
  · exact judgePreview_sound (fun _ => hpv.2.1 (hpv.inactive (by simp [hp]))) (fun h => absurd rfl h) hb
  · have fits : s.ArbiterFits c := ha c
    simp only [State.ArbiterFits, drv, Bool.false_and] at fits
    obtain ⟨-, -, released⟩ := fits.idle rfl
    show Arbiter.Fits (true && (s.sensing.get c).enabled) none (s.guard.get c) ((s.begun tag).arbiter.get c)
    rw [State.begun, PerCorner.get_mapIdx]
    cases he : (s.sensing.get c).enabled with
    | true => exact Arbiter.begun_fits _ released
    | false => exact fits.anyForm none

/-- What the failsafe form taken makes of an arbiter that fitted. -/
theorem FailsafeTaken.fits {g : Regulation} {now : Nat} {x : Option Context} {a a' : Arbiter} {o o' : Mapper × Regulator}
    {d : Nat} (h : FailsafeTaken g now x a o d a' o') {active : Bool} {f : Option Nat} {gd : Guard}
    (ha : a.Fits active f gd) : a'.Fits active (some d) gd := by
  obtain ⟨h', -, -⟩ := h _ rfl
  have stripped : (if x.isSome then { a with preview := none } else a : Arbiter).active = active := by
    split <;> exact ha.1
  rw [h']
  cases active with
  | true =>
    obtain ⟨stored, -, guard⟩ := ha.forms rfl
    rw [if_pos stripped]
    split <;> simp_all [Arbiter.Fits, Arbiter.winner]
  | false =>
    obtain ⟨level, resolved, released⟩ := ha.idle rfl
    rw [if_neg (by simp [stripped])]
    split <;> simp_all [Arbiter.Fits]

theorem FailsafeTaken.kept {g : Regulation} {now : Nat} {x : Option Context} {a a' : Arbiter} {o o' : Mapper × Regulator}
    {d : Nat} (h : FailsafeTaken g now x a o d a' o') : o.2.Kept o'.2 := by
  obtain ⟨-, idle, active⟩ := h _ rfl
  cases hb : (if x.isSome then { a with preview := none } else a : Arbiter).active with
  | false => rw [idle hb]; exact .refl _
  | true =>
    rcases active hb with e | ⟨-, e⟩ <;> rw [e]
    · exact handOn_kept ..
    · exact (handOn_kept ..).trans (handOn_kept ..)

theorem enterFailsafe_keeps {s : State} (fc : FailCause) (cause : Cause) (tag : Byte)
    (hp : s.control.part = .running) :
    Keeps s (enterFailsafe fc cause tag s) := by
  obtain ⟨a, m, r, taken, e⟩ := enterFailsafe_eq fc cause tag s
  have drv : s.driving = true := by simp [State.driving, hp]
  rw [e]
  refine ⟨⟨le_rfl, rfl, fun h => ?_, fun h hpv hb => ⟨⟨?_, fun _ => ⟨fun c => ?_, fun c => ?_⟩, fun _ f => ?_⟩, fun c => ?_⟩,
    fun h ha c => ?_, fun hr c => (taken c).kept.2 (hr c)⟩, LinkState.record_kept ..⟩
  · obtain ⟨high, start, wake, conv, cap⟩ := h.listening (.inr drv)
    obtain ⟨-, -, -, -, -, -, h7, h8, -⟩ := h
    refine ⟨?_, ?_, nofun, nofun, ?_, nofun, fun c => ?_, fun f => ?_, fun low => ?_⟩
    · simp [start]
    · simp [wake]
    · simp [high, conv]
    · exact ((taken c).kept.1.trans ((h7 c).trans cap)).trans (by simp [capturing, high])
    · exact ((h8 f).trans cap).trans (by simp [capturing, high])
    · exact absurd (show s.resetLow = true from low) (by simp [high])
  · simp [previewCondition]
  · simp
  · simp
  · cases f <;> rfl
  · simp
  · have fits := ha c
    exact (taken c).fits (show (s.arbiter.get c).Fits (true && (s.sensing.get c).enabled) _ _ by rw [← drv]; exact fits)

theorem demandExpiry_keeps (s : State) : Keeps s (demandExpiry s) := by
  unfold demandExpiry
  split
  · exact .refl s
  · next T _ =>
    refine (Quiet.reachTime s T).keeps.trans ?_
    generalize s.reachTime T = u
    simp only
    split
    · next hp =>
      -- the timer is stopped again on entry to Failsafe
      exact enterFailsafe_keeps (s := u) .demandTimeout .demandTimeout 0 hp
    · next hp =>
      refine setControl_keeps rfl (fun _ => rfl) ?_
      rintro ⟨h1, h2, -, -, h5, h6, h7, h8, h9⟩
      exact ⟨h1, h2, nofun, fun h => absurd h hp, h5, h6, h7, h8, h9⟩

theorem resumeRunning_keeps {s : State} (tag : Byte) (hp : s.control.part = .failsafe)
    (hd : s.control.demandTimer.isSome = true) : Keeps s (resumeRunning tag s) := by
  have drv : s.driving = true := by simp [State.driving, hp]
  rw [resumeRunning, handFailsafe_all]
  generalize hu : State.mk .. = u
  have flag := judgePreview_quiet u
  have regs (c : Corner) : (s.reg.get c).Kept (u.reg.get c) := by
    rw [← hu, PerCorner.get_mapIdx]
    exact failsafeOutputs_kept ..
  subst hu
  refine ⟨⟨flag.now, flag.pending, fun h => flag.toFramed.timers ?_, fun h hpv hb => ?_, fun h ha => flag.arbiters fun c => ?_,
    fun hr c => (flag.regs c).2 ((regs c).2 (hr c))⟩, .trans (LinkState.record_kept ..) flag.link⟩
  · obtain ⟨high, start, wake, conv, cap⟩ := h.listening (.inr drv)
    obtain ⟨-, -, -, -, -, -, h7, h8, -⟩ := h
    refine ⟨?_, ?_, fun _ => rfl, fun _ => hd, ?_, nofun, fun c => ?_, fun f => ?_, fun low => ?_⟩
    · simp [changePart, queueEvent, State.setPreview, start]
    · simp [changePart, queueEvent, State.setPreview, wake]
    · simp [changePart, queueEvent, State.setPreview, high, conv]
    · exact ((regs c).1.trans ((h7 c).trans cap)).trans (by simp [changePart, queueEvent, State.setPreview, capturing, high])
    · exact ((h8 f).trans cap).trans (by simp [changePart, queueEvent, State.setPreview, capturing, high])
    · exact absurd (show s.resetLow = true from low) (by simp [high])
  · exact judgePreview_sound (fun _ => hpv.2.1 (hpv.inactive (by simp [hp]))) (fun h => absurd rfl h) hb
  · have fits : s.ArbiterFits c := ha c
    simp only [State.ArbiterFits, drv, Bool.true_and] at fits
    show Arbiter.Fits (true && (s.sensing.get c).enabled) none (s.guard.get c)
      ((s.arbiter.mapIdx fun _ a => a.handedFailsafe none).get c)
    rw [PerCorner.get_mapIdx, Arbiter.handedFailsafe_eq]
    cases he : (s.sensing.get c).enabled with
    | true =>
      rw [he] at fits
      obtain ⟨stored, -, guard⟩ := fits.forms rfl
      rw [if_pos fits.1]
      exact Arbiter.settled_fits (a := { s.arbiter.get c with failsafe := none }) fits.1
        (fun _ => ⟨stored, rfl, guard⟩) (fun h => by cases h)
    | false =>
      rw [he] at fits
      rw [if_neg (by simp [fits.1])]
      exact fits.anyForm none

/-! ### Stop and Park -/

/-- What Stop and Park make of the blocks alike, at the part state and with the link they leave (R161, R162). -/
def State.idled (s : State) (p : PartState) (cause : Cause) (tag : Byte) : State := { s with
  control := { s.control with part := p, cause := none, demandTimer := none },
  preview := { s.preview with active := false }, window := ⟨none, none⟩, queue := PerCorner.all [],
  context := PerCorner.all none, arbiter := PerCorner.all Arbiter.reset,
  guard := s.guard.mapIdx fun _ g => { g with engaged := none, timer := none },
  mapper := s.mapper.mapIdx fun _ m => { m with last := none },
  reg := s.reg.mapIdx fun _ r => enterOff r,
  link := s.link.record (event .stateChanged none p.code cause.code tag.toNat) }

theorem stopPart_eq (tag : Byte) (s : State) : stopPart tag s = cancelTests { s.idled .configuring .stop tag with
    reg := s.reg.mapIdx fun _ r => { enterOff r with latched := false },
    dist := { s.dist with direction := .unknown, driveTimer := none } } := rfl

theorem parkPart_eq (tag : Byte) (s : State) : parkPart tag s = cancelTests { s.idled .parked .park tag with
    reg := s.reg.mapIdx fun _ r => { enterOff r with period := none, lastIm := 0 },
    sensing := s.sensing.mapIdx fun _ x => { x with history := [] },
    conv := { timer := none, pos := .idle },
    dist := { s.dist with
      wheel := ⟨s.dist.wheel.fl.park, s.dist.wheel.fr.park⟩,
      speed := 0, direction := .unknown, referenceSpeed := 0, driveTimer := none } } := rfl

/-- A state idled in Configuring or Parked: the preview blocks and the arbiters are sound. -/
theorem idled_sound {s t : State} (hpart : t.control.part = .configuring ∨ t.control.part = .parked)
    (ht : t = { s with
      control := t.control, dist := t.dist, conv := t.conv, sensing := t.sensing, reg := t.reg, link := t.link,
      preview := { s.preview with active := false }, window := ⟨none, none⟩, queue := PerCorner.all [],
      context := PerCorner.all none, arbiter := PerCorner.all Arbiter.reset,
      guard := s.guard.mapIdx fun _ g => { g with engaged := none, timer := none },
      mapper := s.mapper.mapIdx fun _ m => { m with last := none } }) :
    (t.PreviewSound ∧ t.QueuesBounded) ∧ t.ArbitersSound := by
  have drv : t.driving = false := by rcases hpart with h | h <;> simp [State.driving, h]
  have flag : t.preview.active = false := by rw [ht]
  refine ⟨⟨⟨?_, fun _ => ⟨fun c => ?_, fun c => ?_⟩, fun _ f => ?_⟩, fun c => ?_⟩, fun c => ?_⟩
  · rcases hpart with h | h <;> simp [flag, previewCondition, h]
  · rw [ht]; simp
  · rw [ht]; simp
  · rw [ht]; cases f <;> rfl
  · rw [ht]; simp
  · have arbiter : t.arbiter.get c = Arbiter.reset := by rw [ht]; simp
    have guard : (t.guard.get c).engaged = none := by rw [ht]; simp
    simp [arbiter, drv, guard, Arbiter.reset]

theorem stopPart_keeps {s : State} (tag : Byte) (hp : s.driving = true) : Keeps s (stopPart tag s) := by
  rw [stopPart_eq]
  refine .trans ?_ (cancelTests_quiet _).keeps
  have sound := idled_sound (s := s) (.inl rfl) (t := { s.idled .configuring .stop tag with
    reg := s.reg.mapIdx fun _ r => { enterOff r with latched := false },
    dist := { s.dist with direction := .unknown, driveTimer := none } }) rfl
  have regs (c : Corner) : (s.reg.get c).Kept { enterOff (s.reg.get c) with latched := false } := enterOff_kept _
  refine ⟨⟨le_rfl, rfl, fun h => ?_, fun _ _ _ => sound.1, fun _ _ => sound.2, fun hr c => ?_⟩, LinkState.record_kept ..⟩
  · obtain ⟨high, start, wake, conv, cap⟩ := h.listening (.inr hp)
    obtain ⟨-, -, -, -, -, -, h7, h8, -⟩ := h
    refine ⟨?_, ?_, nofun, nofun, ?_, nofun, fun c => ?_, fun f => ?_, fun low => ?_⟩
    · simp [State.idled, start]
    · simp [State.idled, wake]
    · simp [State.idled, high, conv]
    · rw [PerCorner.get_mapIdx]
      exact ((regs c).1.trans ((h7 c).trans cap)).trans (by simp [State.idled, capturing, high])
    · exact ((h8 f).trans cap).trans (by simp [State.idled, capturing, high])
    · exact absurd (show s.resetLow = true from low) (by simp [high])
  · rw [PerCorner.get_mapIdx]
    exact (regs c).2 (hr c)

theorem parkPart_keeps {s : State} (tag : Byte) (hp : s.control.part = .configuring ∨ s.control.part = .failsafe) :
    Keeps s (parkPart tag s) := by
  rw [parkPart_eq]
  refine .trans ?_ (cancelTests_quiet _).keeps
  have sound := idled_sound (s := s) (.inr rfl) (t := { s.idled .parked .park tag with
    reg := s.reg.mapIdx fun _ r => { enterOff r with period := none, lastIm := 0 },
    sensing := s.sensing.mapIdx fun _ x => { x with history := [] },
    conv := { timer := none, pos := .idle },
    dist := { s.dist with
      wheel := ⟨s.dist.wheel.fl.park, s.dist.wheel.fr.park⟩,
      speed := 0, direction := .unknown, referenceSpeed := 0, driveTimer := none } }) rfl
  refine ⟨⟨le_rfl, rfl, fun h => ?_, fun _ _ _ => sound.1, fun _ _ => sound.2, fun hr c => ?_⟩, LinkState.record_kept ..⟩
  · obtain ⟨high, start, wake, -, -⟩ := h.listening (hp.imp_right fun h => by simp [State.driving, h])
    refine ⟨?_, ?_, nofun, nofun, ?_, fun _ => rfl, fun c => ?_, fun f => ?_, fun low => ?_⟩
    · simp [State.idled, start]
    · simp [State.idled, wake]
    · simp [State.idled]
    · simp [State.idled, capturing]
    · cases f <;> simp [State.idled, capturing, PerFront.get, Wheel.park]
    · exact absurd (show s.resetLow = true from low) (by simp [high])
  · rw [PerCorner.get_mapIdx]
    obtain ⟨h1, h2, h3, h4, h5, h6, -, h8⟩ := (enterOff_kept _).2 (hr c)
    exact ⟨h1, h2, h3, h4, h5, h6, Nat.zero_le _, h8⟩

end Sys2Proof.Machine

/-! PROOF. Every request and every step: the clock and the queue of commands (log 1, log 2), and the invariants of the blocks
and of the link. -/

namespace Sys2Proof.Machine

/-! ### Settings -/

/-- Enabled corners change only while the part does not drive. -/
theorem setSensing_idle_keeps {s : State} (c : Corner) (x : Sensing) (hd : s.driving = false) :
    Keeps s (s.setSensing c x) := by
  refine ⟨⟨le_rfl, rfl, id, fun _ h hb => ⟨h, hb⟩, fun _ ha d => ?_, id⟩, .refl _⟩
  have fits : s.ArbiterFits d := ha d
  simp only [State.ArbiterFits, hd, Bool.false_and] at fits
  show Arbiter.Fits (s.driving && _) _ _ _
  rw [hd]
  exact fits.anyForm _

/-- A guard with new settings, its form handed on or withdrawn as R85 says. -/
theorem resetGuard_quiet {c : Corner} {g : Guard} {s : State} (hg : g.engaged = (s.guard.get c).engaged) :
    Quiet s (resetGuard c (s.guard.get c) (s.setGuard c g)) := by
  unfold resetGuard
  simp only [State.setGuard_guard, PerCorner.get_set_self]
  cases he : g.engaged with
  | none => exact setGuard_quiet (by rw [← hg, he]; rfl)
  | some d =>
    have released : Quiet s (releaseGuard c (s.setGuard c g)) := by
      have := handGuard_quiet (c := c) (g := { g with engaged := none, timer := none }) (s := s) fun _ _ => rfl
      simpa [releaseGuard, he, State.setGuard] using this
    have handed := handGuard_quiet (c := c) (g := g) (s := s) fun fits idle => by
      rw [State.ArbiterFits, idle] at fits
      rw [hg]; exact (fits.idle rfl).2.2
    rw [he] at handed
    have byBand (band : Nat) : Quiet s (if band = 0 then releaseGuard c (s.setGuard c g)
        else if g.guardDemand = (s.guard.get c).guardDemand then s.setGuard c g
        else handGuard c (some g.guardDemand) (s.setGuard c g)) := by
      split
      · exact released
      · split
        · next same => exact setGuard_quiet (by rw [← hg, he, same])
        · exact handed
    cases d with
    | compression => exact byBand g.bumpBand
    | rebound => exact byBand g.reboundBand

theorem writeGeometry_keeps (r : GeometryRecord) (s : State) : Keeps s (writeGeometry r s) := by
  unfold writeGeometry
  simp only
  refine .trans ?_ (handSpeed_keeps ..)
  refine setDist_keeps (fun ht f => ?_) rfl rfl
  obtain ⟨-, -, -, -, -, -, -, silences, -⟩ := ht
  cases f
  · exact silences .fl
  · exact silences .fr

/-! ### Preview requests -/

theorem injectCorner_framed (r : InjectRecord) (arrival : Odo) (c : Corner) (s : State) :
    Framed s (injectCorner r arrival c s).1 := by
  unfold injectCorner
  split
  · exact (drawId_quiet s).toFramed.trans (offerToQueue_framed ..)
  · exact .refl s

theorem injectCorners_framed (r : InjectRecord) (arrival : Odo) (cs : List Corner) (s : State) :
    Framed s (injectCorners r arrival cs s).1 := by
  induction cs generalizing s with
  | nil => exact .refl s
  | cons c cs ih => exact (injectCorner_framed r arrival c s).trans (ih _)

theorem setQueue_nil_quiet (c : Corner) (s : State) : Quiet s (s.setQueue c []) := by
  refine ⟨setQueue_framed fun _ => Nat.zero_le _, fun h ha => ⟨fun d => ?_, (h ha).2⟩⟩
  rw [State.setQueue_queue, PerCorner.get_set]
  split
  · rfl
  · exact (h ha).1 d

theorem clearCorners_quiet (cs : List Corner) (s : State) : Quiet s (clearCorners cs s).1 := by
  induction cs generalizing s with
  | nil => exact .refl s
  | cons c cs ih => exact ((setQueue_nil_quiet c s).trans (emptyContext_quiet c _)).trans (ih _)

/-! ### Demands and the direction -/

theorem writeDemand_quiet (c : Corner) (h : Half) (s : State) : Quiet s (writeDemand c h s) := by
  unfold writeDemand
  split
  · exact .refl s
  · exact storeDemand_quiet c _ s

theorem driveState_keeps {s : State} {d : Distance}
    (hs : ∀ f, (d.wheel.get f).silence.isSome = (s.dist.wheel.get f).silence.isSome) :
    Keeps s (judgePreview (evalDistanceLost (s.setDist d))) := by
  unfold evalDistanceLost
  split
  · refine .trans ?_ (judgePreview_keeps (fun _ => rfl) (.refl _))
    exact judgePreview_keeps (d := { d with lost := true }) hs (queueEvent_quiet _ _)
  · exact judgePreview_keeps hs (.refl _)

/-! ### What a request leaves of the link -/

/-- A request answered, by a reply or by a reservation; a Restart leaves its own reply alone. -/
def LinkState.Answered (l m : LinkState) : Prop :=
  (m.inbound = l.inbound ∧ (l.Steady → m.Steady ∧ m.outstanding = l.outstanding + 1)) ∨
  (m.inbound = [] ∧ m.Steady ∧ m.outstanding = 1)

/-- What a request keeps. -/
structure Answers (s t : State) : Prop extends Upholds s t where
  link : s.link.Answered t.link

theorem placeReply_answers {s t : State} (kind tag : Byte) (status : Status) (payload : List Byte) (h : Keeps s t) :
    Answers s (placeReply kind tag status payload t) := by
  refine ⟨h.toUpholds.trans (setLink_upholds _ _), .inl ⟨h.link.1, fun hs => ?_⟩⟩
  obtain ⟨steady, same⟩ := h.link.2 hs
  refine ⟨steady, ?_⟩
  simp only [placeReply, State.setLink_link, LinkState.outstanding, List.length_append, List.length_singleton] at same ⊢
  omega

theorem reply_answers {s t : State} (tag kind : Byte) (status : Status) (payload : List Byte) (h : Keeps s t) :
    Answers s (reply tag kind status payload t) := placeReply_answers _ _ _ _ h

theorem reserveTest_answers {s t : State} {c : Corner} {tag : Byte} (h : Quiet s t) (hl : t.link = s.link)
    (free : s.link.inflight.get c = none) : Answers s (reserveTest c tag t) := by
  refine ⟨h.keeps.toUpholds.trans (setLink_upholds _ _), .inl ⟨by simp [reserveTest, hl], fun ⟨h1, h2, h3⟩ => ?_⟩⟩
  have counted := LinkState.tests_set_some s.link c tag free
  simp only [reserveTest, State.setLink_link, hl, LinkState.outstanding]
  exact ⟨⟨h1, h2, by rw [LinkState.tests, counted, h3]⟩, by omega⟩

theorem restartPart_answers (tag : Byte) (s : State) : Answers s (restartPart tag s) := by
  refine ⟨restartPart_upholds tag s, .inr ?_⟩
  unfold restartPart
  cases h : s.link.outbound.isSome <;>
    simp [reply, placeReply, beginStarting, State.resetAt, LinkState.reset, LinkState.Steady,
      LinkState.tests, LinkState.outstanding, Corner.list]

theorem takeCoilTestAt_answers (tag : Byte) (c : Corner) (s : State) : Answers s (takeCoilTestAt tag c s) := by
  unfold takeCoilTestAt takeTestExcitation
  simp only
  split
  · exact reply_answers _ _ _ _ (.refl s)
  · next busy =>
    have free : s.link.inflight.get c = none := by simpa using busy
    split
    · exact reply_answers _ _ _ _ (.refl s)
    · split
      · split
        · exact reply_answers _ _ _ _ (.refl s)
        · exact reserveTest_answers (setReg_quiet (startTest_kept _)) rfl free
      · split
        · exact reply_answers _ _ _ _ (.refl s)
        · split
          · exact reply_answers _ _ _ _ (.refl s)
          · split
            · exact reply_answers _ _ _ _ (.refl s)
            · exact reserveTest_answers (setReg_quiet (.refl _)) rfl free

/-! ### Every request -/

/-- The requests whose state test only Configuring passes. -/
theorem configuring_of_taken {r : Request} {p : PartState} (h : stateTest r p = none)
    (hr : r.kind ∈ [0x10, 0x11, 0x12, 0x13, 0x14, 0x30]) : p = .configuring := by
  rw [stateTest_eq_refusalTable] at h
  cases p <;> simp only [refusalTable] at h <;>
    cases r <;> simp [Request.kind] at h hr <;> rfl

theorem stop_taken {p : PartState} (h : stateTest .stop p = none) : p = .running ∨ p = .failsafe := by
  cases p <;> simp [stateTest] at h ⊢

theorem halt_taken {p : PartState} (h : stateTest .halt p = none) : p = .running := by
  cases p <;> simp [stateTest] at h ⊢

theorem resume_taken {p : PartState} (h : stateTest .resume p = none) : p = .failsafe := by
  cases p <;> simp [stateTest] at h ⊢

theorem park_taken {p : PartState} (h : stateTest .park p = none) : p = .configuring ∨ p = .failsafe := by
  cases p <;> simp [stateTest] at h ⊢

theorem takeInjectPreview_answers (tag : Byte) (r : InjectRecord) (s : State) :
    Answers s (takeInjectPreview tag r s) := by
  unfold takeInjectPreview
  split
  · exact reply_answers _ _ _ _ (.refl s)
  · next active =>
    split
    · exact reply_answers _ _ _ _ (.refl s)
    · simp only
      split
      · exact reply_answers _ _ _ _ (.refl s)
      · exact reply_answers _ _ _ _ ((injectCorners_framed ..).quiet (by simpa using active)).keeps

/-- A request that has passed its state test. -/
theorem runRequest_answers (tag : Byte) (r : Request) (s : State) (hs : stateTest r s.control.part = none) :
    Answers s (runRequest tag r s) := by
  have refused (kind field index : Byte) : Answers s (refuseValue tag kind field index s) :=
    reply_answers _ _ _ _ (.refl s)
  cases r with
  | identify => exact reply_answers _ _ _ _ (.refl s)
  | readStatus => exact reply_answers _ _ _ _ (.refl s)
  | readCorner c =>
    simp only [runRequest, takeReadCorner]
    split
    · exact refused ..
    · exact reply_answers _ _ _ _ (.refl s)
  | readEvents n =>
    simp only [runRequest, takeReadEvents]
    split
    · refine reply_answers _ _ _ _ ⟨setLink_upholds _ _, rfl, fun ⟨h1, h2, h3⟩ => ⟨⟨?_, rfl, h3⟩, rfl⟩⟩
      exact (by simp : (s.link.events.drop n.toNat).length ≤ s.link.events.length).trans h1
    · exact refused ..
  | setGeometry x =>
    simp only [runRequest, takeSetGeometry]
    split
    · exact refused ..
    · exact reply_answers _ _ _ _ (writeGeometry_keeps x s)
  | setCorner x =>
    have part := configuring_of_taken hs (by simp [Request.kind])
    simp only [runRequest, takeSetCorner]
    split
    · exact refused ..
    · exact reply_answers _ _ _ _ (setSensing_idle_keeps _ _ (by simp [State.driving, part]))
    · exact refused ..
  | setCurve x =>
    simp only [runRequest, takeSetCurve]
    split
    · exact refused ..
    · exact refused ..
    · split
      · exact reply_answers _ _ _ _ (.refl s)
      · exact reply_answers _ _ _ _ ⟨⟨le_rfl, rfl, id, fun _ h hb => ⟨h, hb⟩, fun _ h => h, id⟩, .refl _⟩
  | setRegulation x =>
    simp only [runRequest, takeSetRegulation]
    split
    · exact refused ..
    · exact reply_answers _ _ _ _ ⟨⟨le_rfl, rfl, id, fun _ h hb => ⟨h, hb⟩, fun _ h => h, id⟩, .refl _⟩
  | setSafety x =>
    have part := configuring_of_taken hs (by simp [Request.kind])
    simp only [runRequest, takeSetSafety]
    split
    · exact refused ..
    · exact reply_answers _ _ _ _ (setControl_keeps rfl (fun h => by simp [part] at h) id)
  | setProfile p st =>
    simp only [runRequest, takeSetProfile]
    split
    · exact refused ..
    · exact reply_answers _ _ _ _ ⟨⟨le_rfl, rfl, id, fun _ h hb => ⟨h, hb⟩, fun _ h => h, id⟩, .refl _⟩
  | setDetection x =>
    simp only [runRequest, takeSetDetection]
    split
    · exact refused ..
    · exact reply_answers _ _ _ _ ⟨⟨le_rfl, rfl, id, fun _ h hb => ⟨h, hb⟩, fun _ h => h, id⟩, .refl _⟩
  | setGuard x =>
    simp only [runRequest, takeSetGuard]
    split
    · exact refused ..
    · exact refused ..
    · exact reply_answers _ _ _ _ (resetGuard_quiet (g := Guard.write x _) rfl).keeps
  | start =>
    have part := configuring_of_taken hs (by simp [Request.kind])
    simp only [runRequest, takeStart]
    split
    · exact reply_answers _ _ _ _ (enterRunning_keeps tag part)
    · exact reply_answers _ _ _ _ (.refl s)
  | stop =>
    have driving : s.driving = true := by simpa [State.driving] using stop_taken hs
    exact reply_answers _ _ _ _ (stopPart_keeps tag driving)
  | halt =>
    exact reply_answers _ _ _ _ (enterFailsafe_keeps .halt .halt tag (halt_taken hs))
  | resume =>
    simp only [runRequest, takeResume]
    split
    · next demand => exact reply_answers _ _ _ _ (resumeRunning_keeps tag (resume_taken hs) demand)
    · exact reply_answers _ _ _ _ (.refl s)
  | park =>
    simp only [runRequest, takePark]
    split
    · exact reply_answers _ _ _ _ (parkPart_keeps tag (park_taken hs))
    · exact reply_answers _ _ _ _ (.refl s)
  | restart => exact restartPart_answers tag s
  | demand v =>
    exact reply_answers _ _ _ _ ((Quiet.foldl (fun t c => writeDemand_quiet c _ t) _ s).keeps.trans (demandNotice_keeps _))
  | driveState d v =>
    simp only [runRequest, takeDriveState]
    split
    · exact refused ..
    · exact reply_answers _ _ _ _ (driveState_keeps fun _ => rfl)
  | injectPreview x => exact takeInjectPreview_answers tag x s
  | clearPreview c =>
    simp only [runRequest, takeClearPreview]
    split
    · exact reply_answers _ _ _ _ (clearCorners_quiet _ s).keeps
    · exact refused ..
  | coilTest c =>
    simp only [runRequest, takeCoilTest]
    split
    · exact refused ..
    · exact takeCoilTestAt_answers tag _ s

theorem judgeRequest_answers (tag : Byte) (r : Request) (s : State) : Answers s (judgeRequest tag r s) := by
  unfold judgeRequest
  split
  · split
    · exact reply_answers _ _ _ _ (.refl s)
    · next hs => exact runRequest_answers tag r s hs
  · exact reply_answers _ _ _ _ (.refl s)

theorem judgeFrame_answers (f : Frame) (s : State) : Answers s (judgeFrame f s) := by
  have refused (status : Status) : Answers s (placeReply 0xFF f.tag status [] s) := placeReply_answers _ _ _ _ (.refl s)
  unfold judgeFrame
  split
  · exact refused _
  · split
    · exact refused _
    · split
      · split
        · exact judgeRequest_answers ..
        · exact refused _
      · exact reply_answers _ _ _ _ (.refl s)

end Sys2Proof.Machine

/-! PROOF. The processor, the transactions of the link, and every command and step (chapters 9 and 10, log 1, log 2). -/

namespace Sys2Proof.Machine

/-! ### The link's invariant -/

theorem LinkState.sound_iff (l : LinkState) : l.Sound ↔
    l.Steady ∧ l.inbound.length ≤ 2 ∧ l.outstanding ≤ 4 ∧ (l.inbound ≠ [] → l.outstanding = 4) := by
  simp only [LinkState.Sound, LinkState.Steady, LinkState.outstanding, LinkState.tests]
  tauto

/-- What the processor starts from: the invariant, but that frames may wait while there is room. -/
def LinkState.Ready (l : LinkState) : Prop := l.Steady ∧ l.inbound.length ≤ 2 ∧ l.outstanding ≤ 4

theorem LinkState.Sound.ready {l : LinkState} (h : l.Sound) : l.Ready := by
  obtain ⟨steady, waiting, sum, -⟩ := l.sound_iff.1 h
  exact ⟨steady, waiting, sum⟩

theorem LinkState.Kept.ready {l m : LinkState} (h : l.Kept m) (hl : l.Ready) : m.Ready := by
  obtain ⟨steady, waiting, sum⟩ := hl
  obtain ⟨steady', same⟩ := h.2 steady
  exact ⟨steady', by rw [h.1]; exact waiting, by rw [same]; exact sum⟩

theorem LinkState.Kept.sound {l m : LinkState} (h : l.Kept m) (hl : l.Sound) : m.Sound := by
  obtain ⟨steady, waiting, sum, full⟩ := l.sound_iff.1 hl
  obtain ⟨steady', same⟩ := h.2 steady
  exact m.sound_iff.2 ⟨steady', by rw [h.1]; exact waiting, by rw [same]; exact sum, by rw [h.1, same]; exact full⟩

/-- What a command keeps. -/
structure Serves (s t : State) : Prop extends Upholds s t where
  link : s.link.Sound → t.link.Sound

theorem Keeps.serves {s t : State} (h : Keeps s t) : Serves s t := ⟨h.toUpholds, h.link.sound⟩

/-! ### The processor (R174) -/

theorem drawFrames_upholds (k : Nat) (s : State) : Upholds s (drawFrames k s) := by
  induction k generalizing s with
  | zero => exact .refl s
  | succ k ih =>
    unfold drawFrames
    split
    · exact .refl s
    · split
      · exact ((setLink_upholds _ s).trans (judgeFrame_answers _ _).toUpholds).trans (ih _)
      · exact .refl s

/-- Each draw answers one frame, so the processor stops with no frame waiting or with no room for a reply. -/
theorem drawFrames_sound (k : Nat) (s : State) (hk : s.link.inbound.length ≤ k) (h : s.link.Ready) :
    (drawFrames k s).link.Sound := by
  have empty {t : State} (ht : t.link.Ready) (he : t.link.inbound = []) : t.link.Sound :=
    t.link.sound_iff.2 ⟨ht.1, ht.2.1, ht.2.2, fun h => absurd he h⟩
  induction k generalizing s with
  | zero => exact empty h (List.length_eq_zero_iff.1 (Nat.le_zero.1 hk))
  | succ k ih =>
    obtain ⟨steady, waiting, sum⟩ := h
    unfold drawFrames
    split
    · next he => exact empty ⟨steady, waiting, sum⟩ he
    · next f rest hin =>
      rw [hin, List.length_cons] at hk waiting
      split
      · next room =>
        obtain ⟨-, link⟩ := judgeFrame_answers f (s.setLink { s.link with inbound := rest })
        rcases link with ⟨same, answered⟩ | ⟨none, steady', one⟩
        · obtain ⟨steady', more⟩ := answered steady
          refine ih _ (by rw [same]; exact Nat.le_of_succ_le_succ hk) ⟨steady', ?_, ?_⟩
          · rw [same]; exact (Nat.le_succ _).trans waiting
          · rw [more]; exact room
        · exact ih _ (by rw [none]; exact Nat.zero_le k) ⟨steady', by rw [none]; exact Nat.zero_le 2, by omega⟩
      · next full =>
        exact s.link.sound_iff.2 ⟨steady, by rw [hin]; exact waiting, sum, fun _ => by omega⟩

theorem processor_upholds (s : State) : Upholds s (processor s) := drawFrames_upholds _ s

theorem processor_sound {s : State} (h : s.link.Ready) : (processor s).link.Sound := drawFrames_sound _ s le_rfl h

theorem offerFrame_serves (f : Frame) (s : State) : Serves s (offerFrame f s) := by
  unfold offerFrame
  split
  · next place =>
    refine ⟨(setLink_upholds _ s).trans (processor_upholds _), fun h => processor_sound ?_⟩
    obtain ⟨steady, -, sum⟩ := h.ready
    exact ⟨steady, by simp; omega, sum⟩
  · exact (queueEvent_quiet _ s).keeps.serves

theorem arrive_serves (tag : Byte) (r : Request) (s : State) : Serves s (arrive tag r s) := by
  unfold arrive
  split
  · exact (Keeps.refl s).serves
  · split
    · next room =>
      obtain ⟨upholds, link⟩ := judgeRequest_answers tag r s
      refine ⟨upholds, fun h => ?_⟩
      obtain ⟨steady, waiting, sum⟩ := h.ready
      refine (LinkState.sound_iff _).2 ?_
      rcases link with ⟨same, answered⟩ | ⟨none, steady', one⟩
      · obtain ⟨steady', more⟩ := answered steady
        exact ⟨steady', by rw [same]; exact waiting, by omega, fun hne => absurd (same.trans room.1) hne⟩
      · exact ⟨steady', by rw [none]; exact Nat.zero_le 2, by omega, fun hne => absurd none hne⟩
    · exact offerFrame_serves _ s

/-! ### Transactions -/

/-- A change of the link that moves no frame, no reply and no record. -/
theorem setLink_keeps {s : State} {l : LinkState} (h : l = { s.link with
    selnLow := l.selnLow, sdo := l.sdo, outbound := l.outbound, sent := l.sent, assembly := l.assembly,
    received := l.received }) : Keeps s (s.setLink l) := by
  refine ⟨setLink_upholds l s, ?_⟩
  rw [State.setLink_link, h]
  exact ⟨rfl, fun h => ⟨h, rfl⟩⟩

theorem beginTransaction_keeps (s : State) : Keeps s (beginTransaction s) := by
  unfold beginTransaction
  split
  · exact .refl s
  · split
    · exact setLink_keeps rfl
    · next high =>
      split
      · next parked =>
        exact ((Quiet.spend s 1).keeps.trans (wakePart_keeps parked (by simpa using high))).trans (setLink_keeps rfl)
      · exact setLink_keeps rfl

/-- Frame assembly changes its own state and the bytes received. -/
theorem LinkState.takeByte_frame (b : Byte) (l : LinkState) :
    ∃ a bs, l.takeByte b = { l with assembly := a, received := bs } := by
  unfold LinkState.takeByte
  simp only
  split
  · split_ifs <;> exact ⟨_, _, rfl⟩
  · split_ifs <;> exact ⟨_, _, rfl⟩
  all_goals exact ⟨_, _, rfl⟩

theorem wholeByte_serves (b : Byte) (s : State) : Serves s (wholeByte b s) := by
  unfold wholeByte
  split
  · exact (Keeps.refl s).serves
  · next o _ =>
    have shifted : Keeps s (s.setLink (s.link.shiftOut o)) := setLink_keeps rfl
    generalize s.setLink (s.link.shiftOut o) = u at shifted
    simp only
    split
    · have padded : Keeps u (u.setLink { u.link with assembly := .padding, received := [] }) := setLink_keeps rfl
      obtain ⟨upholds, link⟩ := offerFrame_serves (u.link.frame b)
        (u.setLink { u.link with assembly := .padding, received := [] })
      exact ⟨(shifted.trans padded).toUpholds.trans upholds, fun h => link ((shifted.trans padded).link.sound h)⟩
    · obtain ⟨a, bs, taken⟩ := u.link.takeByte_frame b
      rw [taken]
      exact (shifted.trans (setLink_keeps rfl)).serves

theorem removeReply_upholds (s : State) : Upholds s (removeReply s) ∧ (s.link.Ready → (removeReply s).link.Ready) := by
  unfold removeReply
  split
  · next r _ =>
    have dropped : Upholds s (s.setLink { s.link with replies := s.link.replies.drop 1 }) := setLink_upholds _ s
    have ready (h : s.link.Ready) : LinkState.Ready { s.link with replies := s.link.replies.drop 1 } := by
      obtain ⟨steady, waiting, sum⟩ := h
      refine ⟨steady, waiting, ?_⟩
      simp only [LinkState.outstanding, List.length_drop] at sum ⊢
      omega
    simp only
    split
    · have noted := queueEvent_quiet (event .replyTruncated none 0 0 r.tag.toNat)
        (s.setLink { s.link with replies := s.link.replies.drop 1 })
      exact ⟨dropped.trans noted.keeps.toUpholds, fun h => noted.link.ready (ready h)⟩
    · exact ⟨dropped, ready⟩
  · exact ⟨.refl s, id⟩

theorem endTransaction_serves (s : State) : Serves s (endTransaction s) := by
  unfold endTransaction
  split
  · have aborted : Keeps s (abortFrame s) := by
      unfold abortFrame
      split
      · exact (queueEvent_quiet _ s).keeps
      · exact .refl s
    obtain ⟨upholds, ready⟩ := removeReply_upholds (abortFrame s)
    have released : Keeps (removeReply (abortFrame s))
      ((removeReply (abortFrame s)).setLink (removeReply (abortFrame s)).link.release) := setLink_keeps rfl
    exact ⟨((aborted.toUpholds.trans upholds).trans released.toUpholds).trans (processor_upholds _),
      fun h => processor_sound (released.link.ready (ready (aborted.link.ready h.ready)))⟩
  · exact (Keeps.refl s).serves

/-! ### Every command and every step -/

theorem reset_serves {s t : State} (h : Upholds s t) (hl : t.link.Sound) : Serves s t := ⟨h, fun _ => hl⟩

theorem powerUp_link_sound (s : State) : (powerUp s).link.Sound := by
  unfold powerUp
  split
  · exact (holdReset_sound s).1
  · exact (resetAt_sound ..).1

theorem resetEdge_link_sound (s : State) : (resetEdge s).link.Sound := by
  unfold resetEdge
  split
  · exact (resetAt_sound ..).1
  · exact (holdReset_sound s).1

/-- Every command answers a next state that keeps the invariants. -/
theorem exec_serves (c : Instr) (s : State) : ∃ t, exec c s = .next t ∧ Serves s t := by
  cases c with
  | powerOn => exact ⟨_, rfl, reset_serves (powerUp_upholds s) (powerUp_link_sound s)⟩
  | resetn => exact ⟨_, rfl, reset_serves (resetEdge_upholds s) (resetEdge_link_sound s)⟩
  | startingEnd => exact ⟨_, rfl, (endStarting_keeps s).serves⟩
  | wakingEnd => exact ⟨_, rfl, (endWaking_keeps s).serves⟩
  | transactionBegin => exact ⟨_, rfl, (beginTransaction_keeps s).serves⟩
  | frameComplete check => exact ⟨_, rfl, wholeByte_serves check s⟩
  | nop => exact ⟨_, rfl, wholeByte_serves 0x00 s⟩
  | wholeByte sdi => exact ⟨_, rfl, wholeByte_serves sdi s⟩
  | transactionEnd => exact ⟨_, rfl, endTransaction_serves s⟩
  | unknownKind f =>
    refine ⟨_, rfl, ?_⟩
    unfold arriveFrame
    split
    · exact (Keeps.refl s).serves
    · exact offerFrame_serves f s
  | wheelPulse wheel stamp => exact ⟨_, rfl, (wheelEdge_keeps wheel stamp s).serves⟩
  | silenceExpiry wheel => exact ⟨_, rfl, (silence_keeps wheel s).serves⟩
  | driveStateTimeout => exact ⟨_, rfl, (driveTimeout_keeps s).serves⟩
  | scan => exact ⟨_, rfl, (beginScan_keeps s).serves⟩
  | travelConversion raw => exact ⟨_, rfl, (travelDone_keeps raw s).serves⟩
  | guardHoldExpiry corner => exact ⟨_, rfl, (holdExpiry_quiet corner s).keeps.serves⟩
  | vbatConversion raw => exact ⟨_, rfl, (vbatDone_keeps raw s).serves⟩
  | periodExpiry corner im => exact ⟨_, rfl, (periodExpiry_quiet corner im s).keeps.serves⟩
  | probeTimerExpiry corner => exact ⟨_, rfl, (probeTimerDone_quiet corner s).keeps.serves⟩
  | applyTime corner => exact ⟨_, rfl, (applyTimeDone_quiet corner s).keeps.serves⟩
  | recoveryWindowExpiry corner => exact ⟨_, rfl, (recoveryDone_quiet corner s).keeps.serves⟩
  | demandTimeout => exact ⟨_, rfl, (demandExpiry_keeps s).serves⟩
  | identify tag => exact ⟨_, rfl, arrive_serves ..⟩
  | readStatus tag => exact ⟨_, rfl, arrive_serves ..⟩
  | readCorner tag corner => exact ⟨_, rfl, arrive_serves ..⟩
  | readEvents tag wanted => exact ⟨_, rfl, arrive_serves ..⟩
  | setGeometry tag r => exact ⟨_, rfl, arrive_serves ..⟩
  | setCorner tag r => exact ⟨_, rfl, arrive_serves ..⟩
  | setCurve tag r => exact ⟨_, rfl, arrive_serves ..⟩
  | setRegulation tag r => exact ⟨_, rfl, arrive_serves ..⟩
  | setSafety tag r => exact ⟨_, rfl, arrive_serves ..⟩
  | setProfile tag profile steps => exact ⟨_, rfl, arrive_serves ..⟩
  | setDetection tag r => exact ⟨_, rfl, arrive_serves ..⟩
  | setGuard tag r => exact ⟨_, rfl, arrive_serves ..⟩
  | start tag => exact ⟨_, rfl, arrive_serves ..⟩
  | stop tag => exact ⟨_, rfl, arrive_serves ..⟩
  | halt tag => exact ⟨_, rfl, arrive_serves ..⟩
  | resume tag => exact ⟨_, rfl, arrive_serves ..⟩
  | park tag => exact ⟨_, rfl, arrive_serves ..⟩
  | restart tag => exact ⟨_, rfl, arrive_serves ..⟩
  | demand tag values => exact ⟨_, rfl, arrive_serves ..⟩
  | driveState tag direction speed => exact ⟨_, rfl, arrive_serves ..⟩
  | injectPreview tag r => exact ⟨_, rfl, arrive_serves ..⟩
  | clearPreview tag corners => exact ⟨_, rfl, arrive_serves ..⟩
  | coilTest tag corner => exact ⟨_, rfl, arrive_serves ..⟩

/-- What every step keeps: the invariants look neither at the queue of commands nor at the clock. -/
structure StepKeeps (s t : State) : Prop where
  timers : s.TimersSound → t.TimersSound
  preview : s.TimersSound → s.PreviewSound → s.QueuesBounded → t.PreviewSound ∧ t.QueuesBounded
  arbiters : s.TimersSound → s.ArbitersSound → t.ArbitersSound
  regs : (∀ c, (s.reg.get c).Sound) → ∀ c, (t.reg.get c).Sound
  link : s.link.Sound → t.link.Sound

theorem step_keeps {s t : State} (h : step s = .next t) : StepKeeps s t := by
  have ran {u : State} {i : Instr} (hu : u = { s with pending := u.pending, choices := u.choices })
      (hi : exec i u = .next t) : StepKeeps s t := by
    obtain ⟨t', ht', served⟩ := exec_serves i u
    obtain rfl : t' = t := by rw [ht'] at hi; injection hi
    rw [hu] at served
    exact ⟨served.timers, served.preview, served.arbiters, served.regs, served.link⟩
  unfold step at h
  split at h
  · unfold idle at h
    split at h
    · exact ran rfl h
    · split at h
      · exact ran rfl h
      · injection h with h
        subst h
        exact ⟨id, fun _ h hb => ⟨h, hb⟩, fun _ h => h, id, id⟩
  · exact ran rfl h

/-- Settles O55: no command leaves a frame waiting while a reply has room, and each keeps the capacities. -/
theorem stepsKeepLinkSound : Obligations.StepsKeepLinkSound := fun _ _ hs h => (step_keeps h).link hs

/-- Settles O56: every operation on a regulator keeps its ranges and the duty its mode fixes. -/
theorem stepsKeepRegulatorsSound : Obligations.StepsKeepRegulatorsSound := fun _ _ hs h => (step_keeps h).regs hs

/-- Settles O57: the flag is judged wherever one of its conditions changes, and its turning false empties the blocks. -/
theorem stepsKeepPreviewSound : Obligations.StepsKeepPreviewSound := fun _ _ ht hp hb h => (step_keeps h).preview ht hp hb

/-- Settles O58: each change of the part state starts and stops the timers that go with it. -/
theorem stepsKeepTimersSound : Obligations.StepsKeepTimersSound := fun _ _ hs h => (step_keeps h).timers hs

/-- Settles O59: every hand-over lets an Active arbiter resolve, and part state and Enabled change only beside it. -/
theorem stepsKeepArbitersSound : Obligations.StepsKeepArbitersSound := fun _ _ ht ha h => (step_keeps h).arbiters ht ha

/-- Settles O60. -/
theorem resetIsSound : Obligations.ResetIsSound := resetAt_sound 0 0 [] false

/-- Settles O1. -/
theorem stepTakesFrontCommand : Obligations.StepTakesFrontCommand := fun _ _ _ => rfl

/-- Settles O2: no operation turns the clock back or touches the queue of commands. -/
theorem commandsCompleteInTime : Obligations.CommandsCompleteInTime := fun c s => by
  obtain ⟨t, ht, served⟩ := exec_serves c s
  exact ⟨t, ht, served.pending, served.now⟩

end Sys2Proof.Machine

/-! PROOF. Resets, the timers that only take note, and the ends of Starting and Waking (chapters 1, 2, 7, 8 and 9). -/

namespace Sys2Proof.Machine

/-! ### Resets (R152) -/

/-- What the two reset commands do, by the level the line has afterwards. -/
theorem exec_reset {c : Instr} {s : State} {held : Bool}
    (h : (c = .powerOn ∧ held = s.resetLow) ∨ (c = .resetn ∧ held = !s.resetLow)) :
    exec c s = .next (if held then holdReset s else beginStarting s) := by
  rcases h with ⟨rfl, rfl⟩ | ⟨rfl, rfl⟩
  · rfl
  · cases low : s.resetLow <;> simp [exec, execResetn, resetEdge, low]

/-- An undefined profile is none whatever its number (R58). -/
theorem Preview.reset_profile (n : Nat) : Preview.reset.profile n = none := by
  simp only [Preview.profile, Preview.reset, Vector.toList_replicate]
  rw [List.getD_eq_getElem?_getD, List.getElem?_replicate]
  split <;> rfl

/-- With no frame waiting the processor does nothing. -/
theorem processor_of_empty {s : State} (h : s.link.inbound = []) : processor s = s := by
  simp [processor, h, drawFrames]

/-- While RESETN is low a rising edge of SELN moves its level only. -/
theorem endTransaction_holdReset (s : State) : endTransaction (holdReset s) = { holdReset s with
    link := { (holdReset s).link with selnLow := false } } := by
  unfold endTransaction
  split
  · exact processor_of_empty rfl
  · next high =>
    have level : (holdReset s).link.selnLow = false := by simpa using high
    rw [← level]

/-- While RESETN is low a falling edge of SELN moves its level only. -/
theorem beginTransaction_holdReset (s : State) : beginTransaction (holdReset s) = { holdReset s with
    link := { (holdReset s).link with selnLow := true } } := by
  unfold beginTransaction
  split
  · next low => rw [← low]
  · rfl

/-- While RESETN is low no timer of a corner runs. -/
theorem holdReset_corner (s : State) (c : Corner) :
    (holdReset s).reg.get c = { Regulator.reset s.now with mode := .off, period := none, duty := 0 } ∧
    (holdReset s).guard.get c = Guard.reset := by
  cases c <;> exact ⟨rfl, rfl⟩

/-- While RESETN is low a pulse moves the clock only, since no edge is captured (R3). -/
theorem wheelEdge_holdReset (w : Front) (stamp : Stamp) (s : State) : wheelEdge w stamp (holdReset s) =
    { holdReset s with now := (wheelEdge w stamp (holdReset s)).now } := rfl

/-- Settles O3: both reset commands leave one of two states, and in the held one no timer runs and the link takes nothing. -/
theorem resetValues : Obligations.ResetValues := by
  refine ⟨fun c s held h => ⟨_, exec_reset h, ?_⟩, fun c s u high hu hc => ?_⟩
  · cases held
    · refine ⟨rfl, rfl, rfl, rfl, rfl, fun f => ?_, rfl, rfl, rfl, rfl, rfl, rfl, rfl, rfl, rfl, rfl, rfl, rfl, fun k => ?_,
        rfl, rfl, rfl, Preview.reset_profile, fun f => ?_, fun k => ?_, fun k => ?_, fun k => ?_, fun k => ?_, fun k => ?_,
        rfl, fun k => ?_, rfl, rfl⟩
      · cases f <;> rfl
      · cases k <;> rfl
      · cases f <;> rfl
      all_goals cases k <;> rfl
    · refine ⟨rfl, rfl, rfl, rfl, rfl, fun f => ?_, rfl, rfl, rfl, rfl, rfl, rfl, rfl, rfl, rfl, rfl, rfl, rfl, fun k => ?_,
        rfl, rfl, rfl, Preview.reset_profile, fun f => ?_, fun k => ?_, fun k => ?_, fun k => ?_, fun k => ?_, fun k => ?_,
        rfl, fun k => ?_, rfl, rfl⟩
      · cases f <;> rfl
      · cases k <;> rfl
      · cases f <;> rfl
      all_goals cases k <;> rfl
  · obtain rfl : u = holdReset s := by
      rw [exec_reset (held := true) (.inr ⟨rfl, by simp [high]⟩)] at hu
      injection hu with hu
      exact hu.symm
    cases c with
    | resetn => exact absurd rfl hc
    | transactionBegin => exact ⟨_, rfl, by rw [beginTransaction_holdReset]⟩
    | transactionEnd => exact ⟨_, rfl, by rw [endTransaction_holdReset]⟩
    | silenceExpiry wheel => cases wheel <;> exact ⟨_, rfl, rfl⟩
    | guardHoldExpiry corner => cases corner <;> exact ⟨_, rfl, rfl⟩
    | periodExpiry corner im => cases corner <;> exact ⟨_, rfl, rfl⟩
    | probeTimerExpiry corner => cases corner <;> exact ⟨_, rfl, rfl⟩
    | applyTime corner => cases corner <;> exact ⟨_, rfl, rfl⟩
    | recoveryWindowExpiry corner => cases corner <;> exact ⟨_, rfl, rfl⟩
    | wheelPulse wheel stamp => exact ⟨_, rfl, wheelEdge_holdReset wheel stamp s⟩
    | _ => exact ⟨_, rfl, rfl⟩

/-! ### Timers -/

/-- Settles O43: each of the three timers that runs writes its own block. -/
theorem timersTakeNote : Obligations.TimersTakeNote := by
  intro s c T
  refine ⟨fun h => ?_, fun h => ?_, fun h => ?_⟩
  · have scanned : exec .scan s = .next (beginScan s) := rfl
    rw [scanned, beginScan, h]; rfl
  · have due : exec (.probeTimerExpiry c) s = .next (probeTimerDone c s) := rfl
    rw [due, probeTimerDone, h]; rfl
  · have closed : exec (.recoveryWindowExpiry c) s = .next (recoveryDone c s) := rfl
    rw [closed, recoveryDone, h]; rfl

/-- Settles O4: the start timer changes the controller only, and the wake timer the blocks that Parked had stopped. -/
theorem timersEnterConfiguring : Obligations.TimersEnterConfiguring := by
  refine ⟨fun s T h => ?_, fun s T h => ?_⟩
  · have ended : exec .startingEnd s = .next (endStarting s) := rfl
    rw [ended, endStarting, h]; rfl
  · have ended : exec .wakingEnd s = .next (endWaking s) := rfl
    rw [ended, endWaking, h]
    refine ⟨_, rfl, rfl, rfl, rfl, fun k => ?_, fun k => ?_, fun k => ?_, fun f => ?_, rfl⟩
    · exact PerCorner.get_mapIdx ..
    · exact PerCorner.get_mapIdx ..
    · exact PerCorner.get_mapIdx ..
    · cases f <;> rfl

end Sys2Proof.Machine

/-! PROOF. The control link (chapter 10): transactions, frame assembly, the inbound queue, the processor and event records. -/

namespace Sys2Proof.Machine

/-! ### The event queue (R178, R179) -/

/-- Two records are the same exactly when Kind, Corner and both codes of Detail agree. -/
theorem Event.same_iff (a b : Event) :
    a.same b = true ↔ b.kind = a.kind ∧ b.corner = a.corner ∧ b.detail1 = a.detail1 ∧ b.detail2 = a.detail2 := by
  simp only [Event.same, Bool.and_eq_true, decide_eq_true_eq, and_assoc]
  constructor <;> rintro ⟨h1, h2, h3, h4⟩ <;> exact ⟨h1.symm, h2.symm, h3.symm, h4.symm⟩

/-- A record equal to the newest is combined with it. -/
theorem LinkState.record_same {e n : Event} {older : List Event} {l : LinkState} (hl : l.events = older ++ [n])
    (h : e.same n = true) :
    l.record e = { l with events := older ++ [{ n with count := min 255 (n.count + 1), value := e.value }] } := by
  simp [LinkState.record, hl, h]

/-- A record unlike the newest is placed while there is room, and else sets the overflow mark. -/
theorem LinkState.record_new {e : Event} {l : LinkState} (h : ∀ older n, l.events = older ++ [n] → e.same n = false) :
    l.record e = if l.events.length < 16 then { l with events := l.events ++ [e], atn := true }
      else { l with overflow := true } := by
  unfold LinkState.record
  rcases List.eq_nil_or_concat l.events with nil | ⟨older, n, last⟩
  · simp [nil]
  · rw [List.concat_eq_append] at last
    simp [last, h older n last]

/-- Settles O54: the newest record decides whether the record is combined, and the length whether it is placed. -/
theorem eventQueueTakesRecord : Obligations.EventQueueTakesRecord := by
  rintro kind corner d1 d2 value s _ rfl
  refine ⟨fun older n hl hk hc h1 h2 => ?_, fun new => ?_⟩
  · rw [queueEvent_eq, LinkState.record_same hl ((Event.same_iff _ _).2 ⟨hk, hc, h1, h2⟩)]; rfl
  · have unlike : ∀ older n, s.link.events = older ++ [n] → (event kind corner d1 d2 value).same n = false := by
      intro older n hl
      rw [Bool.eq_false_iff]
      intro same
      exact new ⟨older, n, hl, (Event.same_iff _ _).1 same⟩
    rw [queueEvent_eq, LinkState.record_new unlike]
    refine ⟨fun room => ?_, fun full => ?_⟩
    · rw [if_pos room]; rfl
    · rw [if_neg (Nat.not_lt.2 full)]

/-! ### The edges of SELN -/

/-- Settles O5: the falling edge goes by the level of RESETN and by the head of the reply queue. -/
theorem fallingEdgeOpensTransaction : Obligations.FallingEdgeOpensTransaction := by
  intro s level
  have begun : exec .transactionBegin s = .next (beginTransaction s) := rfl
  rw [begun, beginTransaction, level, if_neg Bool.false_ne_true]
  refine ⟨fun low => ?_, fun high awake => ⟨fun r rest hr => ?_, fun hr => ?_⟩⟩
  · rw [if_pos low]; rfl
  · have head : s.link.fixOutbound (summary s) = .reply r := by rw [LinkState.fixOutbound, hr]
    rw [if_neg (Bool.eq_false_iff.1 high), if_neg awake, head]; rfl
  · have head : s.link.fixOutbound (summary s) = .filler (summary s) := by rw [LinkState.fixOutbound, hr]
    rw [if_neg (Bool.eq_false_iff.1 high), if_neg awake, head]; rfl

/-- A falling edge in Parked: the transaction of the woken part, its filler fixed before or after the wake. -/
theorem beginTransaction_parked {s : State} (high : s.resetLow = false) (level : s.link.selnLow = false)
    (parked : s.control.part = .parked) : ∃ sum, (sum = summary s ∨ sum = summary (wakePart (s.spend 1))) ∧
    beginTransaction s = (wakePart (s.spend 1)).setLink
      ((wakePart (s.spend 1)).link.begin .ignoring ((wakePart (s.spend 1)).link.fixOutbound sum)) := by
  refine ⟨if Config.choice s.choices % 2 = 0 then summary (wakePart (s.spend 1)) else summary s, ?_, ?_⟩
  · split
    · exact .inr rfl
    · exact .inl rfl
  · simp only [beginTransaction, level, high, parked, if_true, Bool.false_eq_true, if_false]

/-- Settles O6: the waking transaction keeps the records of the woken part, and its filler one of the two Summaries. -/
theorem fallingEdgeWakesParked : Obligations.FallingEdgeWakesParked := by
  intro s high level parked
  obtain ⟨sum, fixed, begun⟩ := beginTransaction_parked high level parked
  have woken : (wakePart (s.spend 1)).link = s.link.record ⟨.stateChanged, none, 5, 7, 0, 1⟩ := rfl
  refine ⟨_, congrArg Host.Outcome.next begun, rfl, rfl, fun r rest hr => ?_, fun hr => ?_, rfl, rfl⟩
  · have head : (wakePart (s.spend 1)).link.fixOutbound sum = .reply r := by
      rw [LinkState.fixOutbound, woken, LinkState.record_replies, hr]
    rw [head]; exact ⟨rfl, rfl⟩
  · have head : (wakePart (s.spend 1)).link.fixOutbound sum = .filler sum := by
      rw [LinkState.fixOutbound, woken, LinkState.record_replies, hr]
    rw [head]
    refine ⟨rfl, ?_⟩
    rcases fixed with rfl | rfl
    · exact ⟨s, .inl rfl, rfl⟩
    · exact ⟨_, .inr rfl, rfl⟩

/-! ### Whole bytes -/

/-- A whole byte outside a transaction is ignored. -/
theorem wholeByte_closed {b : Byte} {s : State} (h : s.link.outbound = none) : wholeByte b s = s := by
  simp [wholeByte, h]

/-- A whole byte that does not complete a frame: one byte goes out and frame assembly takes one. -/
theorem wholeByte_open {b : Byte} {s : State} {o : Outbound} (h : s.link.outbound = some o)
    (ha : s.link.assembly ≠ .check) : wholeByte b s = s.setLink ((s.link.shiftOut o).takeByte b) := by
  have : (s.link.shiftOut o).assembly ≠ .check := ha
  simp [wholeByte, h, this, State.setLink]

/-- A whole byte that completes a frame: the frame is offered. -/
theorem wholeByte_check {check : Byte} {s : State} {o : Outbound} (h : s.link.outbound = some o)
    (ha : s.link.assembly = .check) : wholeByte check s = offerFrame (s.link.frame check) { s with link := { s.link with
      sdo := some (o.byte s.link.sent), sent := s.link.sent + 1, assembly := .padding, received := [] } } := by
  have : (s.link.shiftOut o).assembly = .check := ha
  rw [wholeByte, h]
  exact if_pos this

/-- The outgoing byte after the last byte of the frame is 0. -/
theorem Outbound.byte_eq (o : Outbound) (n : Nat) :
    o.byte n = if n < o.bytes.length then o.bytes.getD n 0 else 0 := by
  unfold Outbound.byte
  split
  · rfl
  · next past => exact List.getD_eq_default _ _ (Nat.not_lt.1 past)

/-- A state of frame assembly that takes no byte. -/
theorem LinkState.takeByte_deaf {b : Byte} {l : LinkState}
    (h : l.assembly = .padding ∨ l.assembly = .ignoring ∨ l.assembly = .idle) : l.takeByte b = l := by
  rcases h with h | h | h <;> simp [LinkState.takeByte, h]

/-- A whole byte in a state of frame assembly that takes none only shifts a byte out. -/
theorem wholeByte_deaf {b : Byte} {s : State} {o : Outbound} (h : s.link.outbound = some o)
    (ha : s.link.assembly = .padding ∨ s.link.assembly = .ignoring ∨ s.link.assembly = .idle) :
    wholeByte b s = s.setLink (s.link.shiftOut o) := by
  have notCheck : s.link.assembly ≠ .check := by rcases ha with e | e | e <;> simp [e]
  rw [wholeByte_open h notCheck, LinkState.takeByte_deaf (l := s.link.shiftOut o) ha]

/-- While incoming bytes are ignored any number of them only shifts as many bytes out. -/
theorem execAll_ignoring (bytes : List Byte) {s : State} {o : Outbound} (h : s.link.outbound = some o)
    (ha : s.link.assembly = .ignoring) : ∃ sdo, execAll (bytes.map Instr.wholeByte) s = .next { s with
      link := { s.link with sent := s.link.sent + bytes.length, sdo := sdo } } := by
  induction bytes generalizing s with
  | nil => exact ⟨s.link.sdo, rfl⟩
  | cons b bytes ih =>
    obtain ⟨sdo, rest⟩ := ih (s := s.setLink (s.link.shiftOut o)) h ha
    have first : exec (.wholeByte b) s = .next (s.setLink (s.link.shiftOut o)) :=
      congrArg Host.Outcome.next (wholeByte_deaf h (.inr (.inl ha)))
    refine ⟨sdo, ?_⟩
    rw [List.map_cons, execAll, first]
    simp only [rest, List.length_cons, Nat.add_comm bytes.length 1, ← Nat.add_assoc]
    rfl

/-- Settles O7: frame assembly takes no byte in these states, and a Nop leaves one of them. -/
theorem bytesWithoutRequest : Obligations.BytesWithoutRequest := by
  intro s
  refine ⟨fun b h => ?_, fun b o h ha => ?_, fun b h ha => ?_, fun o bytes h ha hr => ?_⟩
  · exact congrArg Host.Outcome.next (wholeByte_closed h)
  · rw [← Outbound.byte_eq]; exact congrArg Host.Outcome.next (wholeByte_deaf h ha)
  · exact congrArg Host.Outcome.next (wholeByte_deaf h (.inr (.inr ha)))
  · have nop : exec .nop s = .next (s.setLink { s.link.shiftOut o with assembly := .ignoring }) := by
      refine congrArg Host.Outcome.next ((wholeByte_open h (by simp [ha])).trans ?_)
      simp [LinkState.takeByte, LinkState.shiftOut, ha, hr]
    obtain ⟨sdo, rest⟩ := execAll_ignoring bytes
      (s := s.setLink { s.link.shiftOut o with assembly := .ignoring }) h rfl
    rw [execAll, nop]
    exact ⟨_, rest, rfl⟩

/-! ### Frame assembly -/

/-- The link with some bytes of a frame received, as many bytes gone out since. -/
def LinkState.assembled (o : Outbound) (a : Assembly) (bs : List Byte) (l : LinkState) : LinkState :=
  { l with sdo := some (o.byte (l.sent + bs.length - 1)), sent := l.sent + bs.length, assembly := a, received := bs }

/-- One more byte received, where frame assembly takes it as a byte of the frame. -/
theorem wholeByte_assembled {o : Outbound} {a a' : Assembly} {bs : List Byte} {b : Byte} {s : State}
    (h : s.link.outbound = some o) (ha : a ≠ .check)
    (taken : ∀ l : LinkState, l.assembly = a → l.received = bs →
      l.takeByte b = { l with assembly := a', received := bs ++ [b] }) :
    exec (.wholeByte b) (s.setLink (s.link.assembled o a bs)) =
      .next (s.setLink (s.link.assembled o a' (bs ++ [b]))) := by
  refine congrArg Host.Outcome.next
    ((wholeByte_open (o := o) (s := s.setLink (s.link.assembled o a bs)) h ha).trans ?_)
  rw [taken _ rfl rfl]
  simp [LinkState.assembled, LinkState.shiftOut, State.setLink, Nat.add_assoc]

/-- The state of frame assembly after a Length byte. -/
def Assembly.afterLength (length : Byte) : Assembly := if length = 0 ∨ 48 < length.toNat then .check else .payload

/-- The three bytes of a frame header, after a falling edge of SELN. -/
theorem execAll_header {kind tag length : Byte} {o : Outbound} {s : State} (rest : List Instr) (hk : kind ≠ 0)
    (h : s.link.outbound = some o) (ha : s.link.assembly = .header) (hr : s.link.received = []) :
    execAll (.wholeByte kind :: .wholeByte tag :: .wholeByte length :: rest) s =
      execAll rest (s.setLink (s.link.assembled o (.afterLength length) [kind, tag, length])) := by
  have first : exec (.wholeByte kind) s = .next (s.setLink (s.link.assembled o .header [kind])) := by
    refine congrArg Host.Outcome.next ((wholeByte_open h (by simp [ha])).trans ?_)
    have first : ¬ kind = 0#8 := hk
    simp [LinkState.takeByte, LinkState.shiftOut, LinkState.assembled, ha, hr, first]
  have second : exec (.wholeByte tag) (s.setLink (s.link.assembled o .header [kind])) =
      .next (s.setLink (s.link.assembled o .header [kind, tag])) :=
    wholeByte_assembled h (by decide) fun l hl hb => by simp [LinkState.takeByte, hl, hb]
  have third : exec (.wholeByte length) (s.setLink (s.link.assembled o .header [kind, tag])) =
      .next (s.setLink (s.link.assembled o (.afterLength length) [kind, tag, length])) :=
    wholeByte_assembled h (by decide) fun l hl hb => by
      simp only [LinkState.takeByte, hl, hb, Assembly.afterLength]
      split_ifs <;> simp_all
  rw [execAll, first]; dsimp only
  rw [execAll, second]; dsimp only
  rw [execAll, third]

/-- The payload bytes still to come of a frame whose header stands received. -/
theorem execAll_payload {kind tag length : Byte} {o : Outbound} {s : State} (commands : List Instr)
    (h : s.link.outbound = some o) (taken rest : List Byte) (hl : taken.length + rest.length = length.toNat)
    (hr : rest ≠ []) :
    execAll (rest.map Instr.wholeByte ++ commands)
        (s.setLink (s.link.assembled o .payload (kind :: tag :: length :: taken))) =
      execAll commands (s.setLink (s.link.assembled o .check (kind :: tag :: length :: (taken ++ rest)))) := by
  induction rest generalizing taken with
  | nil => exact absurd rfl hr
  | cons b rest ih =>
    rw [List.length_cons] at hl
    have next : exec (.wholeByte b) (s.setLink (s.link.assembled o .payload (kind :: tag :: length :: taken))) =
        .next (s.setLink (s.link.assembled o (if rest = [] then .check else .payload)
          (kind :: tag :: length :: (taken ++ [b])))) :=
      wholeByte_assembled h (by decide) fun l ha hb => by
        simp only [LinkState.takeByte, ha, hb]
        cases rest with
        | nil => rw [if_neg (by simp at hl ⊢; omega)]; rfl
        | cons b' rest =>
          rw [if_pos (by simp at hl ⊢; omega)]
          simp [← ha]
    rw [List.map_cons, List.cons_append, execAll, next]
    cases rest with
    | nil => rfl
    | cons b' rest =>
      have := ih (taken ++ [b]) (by simp at hl ⊢; omega) (by simp)
      simpa using this

/-- Settles O8: three header bytes, as many payload bytes as Length says, or none above 48, and the check byte. -/
theorem linkAssemblesEveryFrame : Obligations.LinkAssemblesEveryFrame := by
  intro f s o wf h ha hr
  obtain ⟨kind, tag, length, payload, check⟩ := f
  simp only [Frame.wf, Bool.and_eq_true, bne_iff_ne] at wf
  obtain ⟨sized, hk⟩ := wf
  have offered : execAll [.frameComplete check] (s.setLink (s.link.assembled o .check (kind :: tag :: length :: payload)))
      = .next (offerFrame ⟨kind, tag, length, payload, check⟩ { s with link := { s.link with
        sdo := some (o.byte (s.link.sent + (kind :: tag :: length :: payload).length)),
        sent := s.link.sent + (kind :: tag :: length :: payload).length + 1, assembly := .padding, received := [] } }) :=
    congrArg Host.Outcome.next (wholeByte_check (o := o)
      (s := s.setLink (s.link.assembled o .check (kind :: tag :: length :: payload))) h rfl)
  simp only [frameCommands, Frame.covered, List.map_cons, List.cons_append]
  rw [execAll_header _ hk h ha hr]
  by_cases unread : length = 0 ∨ 48 < length.toNat
  · have empty : payload = [] := by
      rcases unread with rfl | above
      · simpa using sized
      · simpa [above] using sized
    subst empty
    rw [Assembly.afterLength, if_pos unread]
    exact offered
  · have counted : payload.length = length.toNat := by
      have : ¬ 48 < length.toNat := fun above => unread (.inr above)
      simpa [this] using sized
    have nonempty : payload ≠ [] := by
      rintro rfl
      exact unread (.inl (BitVec.eq_of_toNat_eq (by simpa using counted.symm)))
    rw [Assembly.afterLength, if_neg unread, execAll_payload _ h [] payload (by simpa using counted) nonempty]
    exact offered

/-! ### The processor (R174) -/

/-- A judged frame leaves the frames waiting as they are, or, at a Restart, none. -/
theorem judgeFrame_inbound (f : Frame) (s : State) :
    (judgeFrame f s).link.inbound.length ≤ s.link.inbound.length := by
  rcases (judgeFrame_answers f s).link with ⟨same, -⟩ | ⟨none, -⟩
  · rw [same]
  · rw [none]; exact Nat.zero_le _

/-- More draws than frames waiting make no difference. -/
theorem drawFrames_enough (k m : Nat) (s : State) (hk : s.link.inbound.length ≤ k) (hm : s.link.inbound.length ≤ m) :
    drawFrames k s = drawFrames m s := by
  induction k generalizing m s with
  | zero => cases m <;> simp [drawFrames, List.length_eq_zero_iff.1 (Nat.le_zero.1 hk)]
  | succ k ih =>
    cases hs : s.link.inbound with
    | nil => cases m <;> simp [drawFrames, hs]
    | cons f rest =>
      rw [hs, List.length_cons] at hk hm
      obtain ⟨m, rfl⟩ := Nat.exists_eq_add_of_le' (Nat.le_of_add_left_le hm)
      have fewer := judgeFrame_inbound f (s.setLink { s.link with inbound := rest })
      simp only [State.setLink_link] at fewer
      simp only [drawFrames, hs]
      split
      · exact ih m _ (fewer.trans (Nat.le_of_succ_le_succ hk)) (fewer.trans (Nat.le_of_succ_le_succ hm))
      · rfl

/-- With no room for a reply the processor does nothing. -/
theorem processor_of_full {s : State} (h : 4 ≤ s.link.outstanding) : processor s = s := by
  unfold processor
  cases s.link.inbound with
  | nil => rfl
  | cons f rest =>
    rw [List.length_cons, drawFrames]
    split
    · rfl
    · rw [if_neg (Nat.not_lt.2 h)]

/-- With room for a reply the processor draws the head of the inbound queue and acts again. -/
theorem processor_draws {s : State} {f : Frame} {rest : List Frame} (h : s.link.inbound = f :: rest)
    (room : s.link.outstanding < 4) :
    processor s = processor (judgeFrame f { s with link := { s.link with inbound := rest } }) := by
  have fewer := judgeFrame_inbound f { s with link := { s.link with inbound := rest } }
  rw [processor, h, List.length_cons, drawFrames, h]
  simp only [if_pos room]
  exact drawFrames_enough _ _ _ fewer le_rfl

/-- A frame offered where none waits and there is room for a reply is judged at once. -/
theorem offerFrame_listening {f : Frame} {s : State} (empty : s.link.inbound = []) (room : s.link.outstanding < 4) :
    offerFrame f s = judgeFrame f s := by
  have waiting : s.link.inbound ++ [f] = [f] := by rw [empty]; rfl
  have drawn : s.setLink { s.link with inbound := [] } = s := by
    rw [← empty]; rfl
  rw [offerFrame, if_pos (by simp [empty]), waiting]
  refine (processor_draws (s := s.setLink { s.link with inbound := [f] }) rfl room).trans ((processor_of_empty ?_).trans
    (congrArg (judgeFrame f) drawn))
  exact List.length_eq_zero_iff.1 (Nat.le_zero.1 (judgeFrame_inbound f (s.setLink { s.link with inbound := [] })))

/-! ### Complete and incomplete frames -/

/-- A frame of received bytes covers them. -/
theorem LinkState.frame_covered (check : Byte) (l : LinkState) (h : 3 ≤ l.received.length) :
    (l.frame check).covered = l.received := by
  match hl : l.received with
  | [] | [_] | [_, _] => simp [hl] at h
  | a :: b :: c :: rest => simp [LinkState.frame, Frame.covered, hl]

/-- Settles O9: the offer goes by the number of frames waiting and the room for a reply. -/
theorem completeFrameOffered : Obligations.CompleteFrameOffered := by
  intro s o check h ha hr
  have completed : exec (.frameComplete check) s = .next (wholeByte check s) := rfl
  refine ⟨s.link.frame check, s.link.frame_covered check hr, rfl, _, rfl, fun full => ?_, fun place noRoom => ?_,
    fun ⟨_, empty, room⟩ => ?_⟩
  · rw [completed, wholeByte_check h ha, offerFrame, if_neg (by simp [full]), queueEvent_eq, event, value16_byte]
  · rw [completed, wholeByte_check h ha, offerFrame, if_pos place, processor_of_full]
    · rfl
    · exact noRoom
  · rw [completed, wholeByte_check h ha, offerFrame_listening]
    · exact empty
    · exact room

/-- An incomplete frame has bytes received in Header, Payload or Check. -/
theorem LinkState.incomplete_iff (l : LinkState) : l.incomplete = true ↔
    (l.assembly = .header ∨ l.assembly = .payload ∨ l.assembly = .check) ∧ l.received ≠ [] := by
  simp [LinkState.incomplete, or_assoc]

/-- Settles O10: the aborted frame and the removed reply go by the transaction's state; then the processor acts. -/
theorem risingEdgeEndsTransaction : Obligations.RisingEdgeEndsTransaction := by
  refine ⟨fun s l level hl => ?_, fun w h => ?_, fun w f rest h room => processor_draws h room⟩
  · have aborted : abortFrame s = s.setLink l := by
      rw [abortFrame, hl]
      by_cases incomplete : s.link.incomplete = true
      · rw [if_pos incomplete, if_pos (s.link.incomplete_iff.1 incomplete)]; rfl
      · rw [if_neg incomplete, if_neg fun h => incomplete (s.link.incomplete_iff.2 h)]; rfl
    have outbound : l.outbound = s.link.outbound := by rw [hl]; split <;> simp
    have sent : l.sent = s.link.sent := by rw [hl]; split <;> simp
    have ended : exec .transactionEnd s = .next (processor ((removeReply (s.setLink l)).setLink
        (removeReply (s.setLink l)).link.release)) := by
      show Host.Outcome.next (endTransaction s) = _
      rw [endTransaction, if_pos level, aborted]
    rw [ended]
    refine ⟨fun r hr out => ?_, fun r hr short => ?_, fun none => ?_⟩
    · simp only [removeReply, State.setLink_link, outbound, hr, sent, if_neg (Nat.not_lt.2 out), List.drop_one]
      rfl
    · simp only [removeReply, State.setLink_link, outbound, hr, sent, if_pos short, List.drop_one]
      rfl
    · have kept : removeReply (s.setLink l) = s.setLink l := by
        unfold removeReply
        rw [State.setLink_link, outbound]
        split
        · next r hr => exact absurd hr (none r)
        · rfl
      rw [kept]; rfl
  · rcases h with empty | full
    · exact processor_of_empty empty
    · exact processor_of_full full

end Sys2Proof.Machine

/-! PROOF. Request frames: the order of a drawn frame's checks (R175), and the record layouts of 10.11 read back. -/

namespace Sys2Proof

/-! ### The kind table (10.11) -/

/-- A kind of the table has a request for every payload of an allowed length. -/
theorem Link.readRequest_of_lengths {k : Byte} {ls : List Nat} (p : List Byte) (h : lengths k = some ls) :
    ∃ r, readRequest k p = some r ∧ r.kind = k := by
  unfold lengths at h
  split at h
  case h_24 => exact absurd h (by simp)
  all_goals
    next code =>
    rw [readRequest, code]
    exact ⟨_, rfl, BitVec.eq_of_toNat_eq code.symm⟩

/-- No payload of the table is longer than 31 bytes. -/
theorem Link.lengths_le {k : Byte} {ls : List Nat} (h : lengths k = some ls) : ∀ n ∈ ls, n ≤ 31 := by
  unfold lengths at h
  split at h
  case h_24 => exact absurd h (by simp)
  all_goals
    obtain rfl := Option.some.inj h
    simp

/-! ### Fields as bytes and back (R182) -/

/-- The two bytes of a field, joined. -/
@[simp] theorem Link.join_bytes2 (h : Half) : h.extractLsb' 8 8 ++ h.extractLsb' 0 8 = h := by
  rw [BitVec.extractLsb'_append_extractLsb'_eq_extractLsb' (start₂ := 8) (start₁ := 0) (len₁ := 8) rfl]
  exact BitVec.extractLsb'_eq_self

/-- The four bytes of a field, joined. -/
theorem Link.join_bytes4 (q : Quad) : (q.extractLsb' 24 8 ++ q.extractLsb' 16 8) ++
    (q.extractLsb' 8 8 ++ q.extractLsb' 0 8) = q := by
  rw [BitVec.extractLsb'_append_extractLsb'_eq_extractLsb' (start₂ := 24) (start₁ := 16) (len₁ := 8) rfl,
    BitVec.extractLsb'_append_extractLsb'_eq_extractLsb' (start₂ := 8) (start₁ := 0) (len₁ := 8) rfl,
    BitVec.extractLsb'_append_extractLsb'_eq_extractLsb' (start₂ := 16) (start₁ := 0) (len₁ := 16) rfl]
  exact BitVec.extractLsb'_eq_self

/-- The eleven points of a curve, written out. -/
theorem Link.points_eq (v : Vector Half 11) :
    v = #v[v[0], v[1], v[2], v[3], v[4], v[5], v[6], v[7], v[8], v[9], v[10]] := by
  ext i hi
  interval_cases i <;> rfl

/-- The steps of a profile, read back from their bytes. -/
theorem Link.readSteps_stepBytes (steps : List StepRecord) : readSteps (steps.flatMap Request.stepBytes) = steps := by
  induction steps with
  | nil => rfl
  | cons st steps ih => simp [Request.stepBytes, Machine.bytes2, readSteps, ih]

/-- The bytes of a profile's steps are five for each step. -/
theorem Link.stepBytes_length (steps : List StepRecord) :
    (steps.flatMap Request.stepBytes).length = 5 * steps.length := by
  induction steps with
  | nil => rfl
  | cons st steps ih => simp [Request.stepBytes, Machine.bytes2, ih]; omega

/-- A payload has a length the table allows for its kind. -/
theorem Request.payload_length (r : Request) (h : r.lengthAllowed = true) :
    ∃ ls, Link.lengths r.kind = some ls ∧ r.payload.length ∈ ls := by
  cases r with
  | setProfile p steps =>
    refine ⟨_, rfl, ?_⟩
    simp only [lengthAllowed, Bool.and_eq_true, decide_eq_true_eq] at h
    obtain ⟨least, most⟩ := h
    rw [payload, List.length_cons, Link.stepBytes_length]
    generalize steps.length = n at least most
    interval_cases n <;> decide
  | setCurve r =>
    refine ⟨_, rfl, ?_⟩
    simp [payload, Machine.bytes2]
  | _ => exact ⟨_, rfl, .head _⟩

/-- A payload is read back as the request it lays out. -/
theorem Link.readRequest_payload (r : Request) : readRequest r.kind r.payload = some r := by
  cases r with
  | setProfile p steps =>
    show some (Request.setProfile p (readSteps (steps.flatMap Request.stepBytes))) = _
    rw [readSteps_stepBytes]
  | setCurve r =>
    obtain ⟨corner, points⟩ := r
    rw [points_eq points]
    simp [readRequest, Request.kind, Request.payload, Machine.bytes2, field1, field2]
  | driveState d v =>
    show some (Request.driveState d ((v.extractLsb' 24 8 ++ v.extractLsb' 16 8) ++
      (v.extractLsb' 8 8 ++ v.extractLsb' 0 8))) = _
    rw [join_bytes4]
  | _ => simp [readRequest, Request.kind, Request.payload, Machine.bytes2, field1, field2]

namespace Machine

/-- A whole frame that is judged at once. -/
theorem exec_unknownKind {f : Frame} {s : State} (h : s.Listening) : exec (.unknownKind f) s = .next (judgeFrame f s) := by
  obtain ⟨high, empty, room⟩ := h
  show Host.Outcome.next (arriveFrame f s) = _
  rw [arriveFrame, high, if_neg Bool.false_ne_true, offerFrame_listening empty room]

/-- A frame with a sound check byte, a known kind and an allowed length is judged as the request it carries. -/
theorem judgeFrame_sound {f : Frame} {r : Request} {ls : List Nat} (s : State) (hc : crc8 f.covered = f.check)
    (hk : Link.lengths f.kind = some ls) (hl : f.length.toNat ∈ ls) (hr : Link.readRequest f.kind f.payload = some r) :
    judgeFrame f s = judgeRequest f.tag r s := by
  rw [judgeFrame, if_neg (not_not.2 hc), hk]
  simp only [if_pos hl, hr]

/-- Settles O11: the three checks stand in this order, and the table knows a request for every kind it knows. -/
theorem frameChecksInOrder : Obligations.FrameChecksInOrder := by
  intro f s listening
  rw [exec_unknownKind listening]
  refine ⟨fun hc => ?_, fun hc hk => ?_, fun ls hc hk hl => ?_, fun ls hc hk hl _ => ?_⟩
  · rw [judgeFrame, if_pos hc]
  · rw [judgeFrame, if_neg (not_not.2 hc), hk]
  · rw [judgeFrame, if_neg (not_not.2 hc), hk]
    simp only [if_neg hl]
    rfl
  · obtain ⟨r, hr, kind⟩ := Link.readRequest_of_lengths f.payload hk
    exact ⟨r, hr, kind, by
      rw [judgeFrame_sound s hc hk hl hr, exec_command, arrive_listening _ _ _ listening]⟩

/-- The frame of a request holds the request's kind, tag, number of payload bytes and payload, and a sound check byte. -/
theorem frame_fields (tag : Byte) (r : Request) (h : r.payload.length ≤ 31) :
    (r.frame tag).kind = r.kind ∧ (r.frame tag).tag = tag ∧ (r.frame tag).length.toNat = r.payload.length ∧
    (r.frame tag).payload = r.payload ∧ crc8 (r.frame tag).covered = (r.frame tag).check := by
  have counted : (byteOf r.payload.length).toNat = r.payload.length := by
    rw [byteOf, BitVec.toNat_ofNat, Nat.mod_eq_of_lt (by omega)]
  refine ⟨rfl, rfl, counted, ?_, rfl⟩
  show (if 48 < (byteOf r.payload.length).toNat then [] else r.payload) = r.payload
  rw [counted, if_neg (by omega)]

/-- The frame of a request is judged as the request. -/
theorem judgeFrame_frame (tag : Byte) {r : Request} (h : r.lengthAllowed = true) (s : State) :
    judgeFrame (r.frame tag) s = judgeRequest tag r s := by
  obtain ⟨ls, hk, hl⟩ := r.payload_length h
  obtain ⟨kind, tagged, length, payload, checked⟩ := frame_fields tag r (Link.lengths_le hk _ hl)
  have judged := judgeFrame_sound (f := r.frame tag) (r := r) (ls := ls) s checked (by rw [kind]; exact hk)
    (by rw [length]; exact hl) (by rw [kind, payload]; exact Link.readRequest_payload r)
  rw [judged, tagged]

/-- Settles O12: the layout of every request, and the frame's way to the processor beside the command's. -/
theorem requestFramesReadBack : Obligations.RequestFramesReadBack := by
  intro tag r h
  refine ⟨r.payload_length h, Link.readRequest_payload r, fun s => ?_⟩
  rw [exec_command]
  show Host.Outcome.next (arriveFrame (r.frame tag) s) = _
  rw [arriveFrame, arrive]
  split
  · rfl
  · split
    · next atOnce => rw [offerFrame_listening atOnce.1 atOnce.2, judgeFrame_frame tag h]
    · rfl

end Machine

end Sys2Proof

/-! PROOF. What ReadStatus and ReadCorner report, field by field at its place in the layouts of 10.11 (R87 to R89, R165). -/

namespace Sys2Proof.Machine

/-! ### Fields of a report -/

/-- A two-byte field that may be absent, as a word. -/
theorem optBytes2_eq (o : Option Nat) : optBytes2 o = bytes2 (wordOf o) := by
  cases o <;> rfl

/-- The two bytes of a word of 0. -/
@[simp] theorem bytes2_zero : bytes2 0 = [0, 0] := by decide

/-- The two bytes of an absent word. -/
theorem bytes2_wordOf_none : bytes2 (wordOf none) = [0xFF, 0xFF] := by decide

/-- A word that is not clamped. -/
theorem value16_of_le {n : Nat} (h : n ≤ 65535) : value16 n = BitVec.ofNat 16 n := by
  rw [value16, Nat.min_eq_left h]

/-- The remaining whole ms of a timer, within a bound of its own (R1). -/
theorem remainingMs_eq (now expiry : Nat) : remainingMs now expiry = (2 * (expiry - now) + 1000) / 2000 := rfl

/-- Three flags in one byte. -/
theorem flags3_eq (a b c : Bool) : flagByte a ||| flagByte b <<< 1 ||| flagByte c <<< 2 =
    BitVec.ofNat 8 ((if a then 1 else 0) + (if b then 2 else 0) + (if c then 4 else 0)) := by
  revert a b c; decide

/-- Four flags in one byte. -/
theorem flags4_eq (a b c d : Bool) : flagByte a ||| flagByte b <<< 1 ||| flagByte c <<< 2 ||| flagByte d <<< 3 =
    BitVec.ofNat 8 ((if a then 1 else 0) + (if b then 2 else 0) + (if c then 4 else 0) + (if d then 8 else 0)) := by
  revert a b c d; decide

/-! ### ReadStatus (R165) -/

/-- Settles O15: every field stands at a fixed place, since each part of the layout has a fixed length. -/
theorem readStatusReports : Obligations.ReadStatusReports := by
  intro tag s listening awake woken
  have admitted : stateTest .readStatus s.control.part = none := by
    rw [stateTest_eq_refusalTable]
    cases hp : s.control.part <;> simp_all [refusalTable, Request.kind]
  refine ⟨statusPayload s, exec_command_passed tag .readStatus s listening admitted rfl, ?_⟩
  unfold statusPayload
  rw [optBytes2_eq, optBytes2_eq]
  refine ⟨rfl, rfl, fun h => ?_, fun T h hT => ?_, rfl, Link.join_bytes4 _, rfl, Link.join_bytes4 _,
    Link.join_bytes4 _, rfl, fun h => ?_, fun v h hv => ?_, fun c => ?_⟩
  · show bytes2 (wordOf _) = _
    rw [h]; exact bytes2_wordOf_none
  · refine (Link.join_bytes2 _).trans ?_
    rw [h]
    exact value16_of_le (by rw [remainingMs_eq]; omega)
  · show bytes2 (wordOf _) = _
    rw [h]; exact bytes2_wordOf_none
  · refine (Link.join_bytes2 _).trans ?_
    rw [h]
    exact value16_of_le (by omega)
  · rw [← flags3_eq]
    cases c <;> rfl

/-! ### ReadCorner (R87 to R89) -/

/-- The three fields of level 1. -/
theorem levelOneBytes_eq (a : Arbiter) : ∃ mode demand value, levelOneBytes a = mode :: (bytes2 demand ++ bytes2 value) ∧
    (∀ f, a.active = true → a.preview = some f →
      mode = f.mode.code ∧ demand = value16 f.demand ∧ value = value16 (f.value a.stored)) ∧
    (a.preview = none → mode = 0xFF ∧ demand = 0xFFFF ∧ value = 0xFFFF) := by
  unfold levelOneBytes
  split
  · next f ha hf =>
    refine ⟨_, _, _, rfl, fun g _ hg => ?_, fun none => absurd (hf.symm.trans none) (by simp)⟩
    obtain rfl : f = g := Option.some.inj (hf.symm.trans hg)
    exact ⟨rfl, rfl, rfl⟩
  · next inactive =>
    exact ⟨0xFF, 0xFFFF, 0xFFFF, rfl, fun f ha hf => absurd hf (inactive f ha), fun _ => ⟨rfl, rfl, rfl⟩⟩

/-- The two fields of the guard. -/
theorem guardBytes_eq (now : Nat) (g : Guard) : guardBytes now g =
    [(g.engaged.map fun d => d.code + 1).getD 0, (g.timer.map fun T => byteOf (remainingMs now T)).getD 0xFF] := by
  cases he : g.engaged with
  | none => cases ht : g.timer <;> simp [guardBytes, he, ht]
  | some d => cases d <;> cases ht : g.timer <;> simp [guardBytes, he, ht, Dir.code]

/-- The three fields of travel sensing. -/
theorem sensingBytes_eq (x : Sensing) : sensingBytes x = flagByte x.faulted ::
    (bytes2 ((x.history.getLast?.map (BitVec.ofInt 16)).getD 0x8000) ++
     bytes4 ((x.velocity.map (BitVec.ofInt 32)).getD 0x80000000)) := by
  unfold sensingBytes
  cases x.history.getLast? <;> cases x.velocity <;> rfl

/-- A velocity takes five positions (R27). -/
theorem Sensing.velocity_eq_none {x : Sensing} (h : x.history.length ≠ 5) : x.velocity = none := by
  unfold Sensing.velocity
  split
  · next full => exact absurd (by rw [full]; rfl) h
  · rfl

/-- The four fields of the preview queue. -/
theorem queueBytes_eq (odometer : Odo) (q : List Entry) : ∃ id arrival remaining,
    queueBytes odometer q = byteOf q.length :: id :: (bytes4 arrival ++ bytes4 remaining) ∧
    (q = [] → id = 0xFF ∧ arrival = 0xFFFFFFFF ∧ remaining = 0x80000000) ∧
    (∀ e es, q = e :: es → id = e.id ∧ arrival = e.arrival ∧ remaining = e.arrival - odometer) := by
  cases q with
  | nil => exact ⟨0xFF, 0xFFFFFFFF, 0x80000000, rfl, fun _ => ⟨rfl, rfl, rfl⟩, nofun⟩
  | cons e es =>
    refine ⟨e.id, e.arrival, e.arrival - odometer, ?_, nofun, fun e' es' h => ?_⟩
    · rw [← BitVec.ofInt_toInt (x := e.arrival - odometer)]; rfl
    · obtain ⟨rfl, rfl⟩ := List.cons.inj h
      exact ⟨rfl, rfl, rfl⟩

/-- The low half of a signed distance (R2). -/
theorem ofInt_signedDiff (a b : Odo) : BitVec.ofInt 16 (signedDiff a b) = (b - a).setWidth 16 :=
  BitVec.signExtend_eq_setWidth_of_le (b - a) (by decide)

/-- The nine bytes of a context before its progress, each 0 when Empty (R70). -/
def contextHead : Option Context → Byte × Byte × Byte × Byte × Byte × Byte × Byte × Byte × Byte
  | none => (0, 0, 0, 0, 0, 0, 0, 0, 0)
  | some x => (1, byteOf x.profile, x.id, byteOf x.cls, x.dir.code, x.origin.code, sourceByte x.source,
      byteOf x.steps.length, byteOf x.index)

/-- The progress of a context (R70). -/
def contextProgress (odometer : Odo) : Option Context → Half
  | none => 0
  | some x => (odometer - x.start).setWidth 16

/-- The fields of the context. -/
theorem contextBytes_eq (odometer : Odo) (o : Option Context) : ∃ b0 b1 b2 b3 b4 b5 b6 b7 b8,
    contextHead o = (b0, b1, b2, b3, b4, b5, b6, b7, b8) ∧
    contextBytes odometer o = [b0, b1, b2, b3, b4, b5, b6, b7, b8] ++ bytes2 (contextProgress odometer o) := by
  cases o with
  | none => exact ⟨_, _, _, _, _, _, _, _, _, rfl, by rw [contextProgress, bytes2_zero]; rfl⟩
  | some x =>
    refine ⟨_, _, _, _, _, _, _, _, _, rfl, ?_⟩
    rw [contextProgress, ← ofInt_signedDiff]; rfl

/-- The source of a context as a corner (R70). -/
theorem sourceByte_eq (o : Option Front) : sourceByte o = (o.map fun f => f.corner.code).getD 0xFF := by
  cases o <;> rfl

/-- Settles O16: every field stands at a fixed place, since each part of the layout has a fixed length. -/
theorem readCornerReports : Obligations.ReadCornerReports := by
  intro tag c s listening part
  have admitted : stateTest (.readCorner c.code) s.control.part = none := by
    rw [stateTest_eq_refusalTable]
    rcases part with h | h | h <;> simp [h, refusalTable, Request.kind]
  have taken : exec (.readCorner tag c.code) s = .next (takeReadCorner tag c.code s) :=
    exec_command_passed tag (.readCorner c.code) s listening admitted rfl
  have answered : takeReadCorner tag c.code s = reply tag 0x03 .ok (cornerPayload c s) s := by
    rw [takeReadCorner, Corner.ofCode_code]
  refine ⟨cornerPayload c s, by rw [taken, answered]; rfl, ?_⟩
  obtain ⟨mode, demand, value, levelOne, form, noForm⟩ := levelOneBytes_eq (s.arbiter.get c)
  obtain ⟨id, arrival, remaining, queue, noEntry, head⟩ := queueBytes_eq s.dist.odometer (s.queue.get c)
  obtain ⟨b0, b1, b2, b3, b4, b5, b6, b7, b8, context, contextBytes⟩ :=
    contextBytes_eq s.dist.odometer (s.context.get c)
  simp only [cornerPayload, regulatorBytes, optBytes2_eq, levelOne, guardBytes_eq, sensingBytes_eq, queue, contextBytes,
    bytes2, bytes4, List.cons_append, List.nil_append]
  refine ⟨rfl, rfl, flags4_eq .., Link.join_bytes2 _, Link.join_bytes2 _, Link.join_bytes2 _, fun f ha hf => ?_,
    fun none => ?_, ?_, Link.join_bytes2 _, rfl, fun none => ?_, fun T hT near => ?_, rfl, Link.join_bytes2 _,
    fun a b d e z five => ?_, fun few => ?_, rfl, fun empty => ?_, fun e es entries => ?_, fun none => ?_,
    fun x running => ?_, rfl, Link.join_bytes2 _, Link.join_bytes2 _, Link.join_bytes2 _, Link.join_bytes2 _,
    Link.join_bytes2 _, Link.join_bytes2 _, Link.join_bytes2 _, rfl⟩
  · obtain ⟨rfl, rfl, rfl⟩ := form f ha hf
    exact ⟨rfl, Link.join_bytes2 _, Link.join_bytes2 _⟩
  · obtain ⟨rfl, rfl, rfl⟩ := noForm none
    rfl
  · show (match (s.arbiter.get c).level with | none => 0xFF | some l => l.code) = _
    cases (s.arbiter.get c).level <;> rfl
  · show ((s.guard.get c).timer.map _).getD 0xFF = _
    rw [none]; rfl
  · show ((s.guard.get c).timer.map _).getD 0xFF = _
    rw [hT]; rfl
  · refine (Link.join_bytes4 _).trans ?_
    rw [Sensing.velocity, five]; rfl
  · refine (Link.join_bytes4 _).trans ?_
    rw [Sensing.velocity_eq_none few]; rfl
  · obtain ⟨rfl, rfl, rfl⟩ := noEntry empty
    exact ⟨rfl, Link.join_bytes4 _, Link.join_bytes4 _⟩
  · obtain ⟨rfl, rfl, rfl⟩ := head e es entries
    exact ⟨rfl, Link.join_bytes4 _, Link.join_bytes4 _⟩
  · rw [none] at context ⊢
    cases context
    exact congrArg ([(0 : Byte), 0, 0, 0, 0, 0, 0, 0, 0] ++ ·) bytes2_zero
  · rw [running] at context ⊢
    cases context
    rw [← sourceByte_eq]
    exact ⟨rfl, Link.join_bytes2 _⟩

end Sys2Proof.Machine

/-! PROOF. Requests with settings: which field refuses them, and what they write (R4, R23, R33, R58, R81, R104, R157, R176). -/

namespace Sys2Proof.Machine

/-! ### Checks as ranges (R176) -/

theorem geometryChecks_eq (r : GeometryRecord) : geometryChecks r = rangeChecks (Request.setGeometry r).ranges := by
  simp [geometryChecks, rangeChecks, Request.ranges, inRange, byteInRange]

theorem cornerChecks_eq (r : CornerRecord) : cornerChecks r = rangeChecks (Request.setCorner r).ranges := by
  simp [cornerChecks, rangeChecks, Request.ranges, isCorner, isFlag, Corner.ofCode_isSome, flagOfCode_isSome, inRange,
    byteInRange]

/-- A byte without any of the bits 4 to 7. -/
theorem isCornerSet_eq (b : Byte) : isCornerSet b = (decide (0 ≤ b.toNat) && decide (b.toNat ≤ 15)) := by
  revert b; decide

/-- A byte is at most 255. -/
theorem byte_le (b : Byte) : b.toNat ≤ 255 := Nat.le_of_lt_succ b.isLt

theorem regulationChecks_eq (r : RegulationRecord) :
    regulationChecks r = rangeChecks (Request.setRegulation r).ranges := by
  simp [regulationChecks, rangeChecks, Request.ranges, isFlag, flagOfCode_isSome, inRange, byteInRange, isCornerSet_eq,
    byte_le]

theorem safetyChecks_eq (r : SafetyRecord) : safetyChecks r = rangeChecks (Request.setSafety r).ranges := by
  simp [safetyChecks, rangeChecks, Request.ranges, inRange]

theorem guardChecks_eq (r : GuardRecord) : guardChecks r = rangeChecks (Request.setGuard r).ranges := by
  simp [guardChecks, rangeChecks, Request.ranges, isCorner, Corner.ofCode_isSome, inRange, byteInRange]

/-- The only field of a list is the one out of range. -/
theorem FirstOutside.single {v least most i : Nat} (h : FirstOutside [(v, least, most)] i) :
    i = 0 ∧ (decide (least ≤ v) && decide (v ≤ most)) = false := by
  have first := firstBad_ranges_some _ _ h
  obtain rfl : i = 0 := by simpa using h.1
  cases inside : decide (least ≤ v) && decide (v ≤ most) with
  | false => exact ⟨rfl, rfl⟩
  | true => simp [rangeChecks, firstBad, inside] at first

/-- The requests whose meaning begins with the ranges of their fields are refused at the first value out of its range. -/
theorem runRequest_outside {tag : Byte} {r : Request} {i : Nat} (s : State) (h : FirstOutside r.ranges i) :
    runRequest tag r s = refuseValue tag r.kind (byteOf (i + 1)) 0 s := by
  have first := firstBad_ranges_some _ _ h
  have noCode {α : Type} {o : Option α} {least most v : Nat}
      (code : o.isSome = (decide (least ≤ v) && decide (v ≤ most)))
      (outside : (decide (least ≤ v) && decide (v ≤ most)) = false) : o = none := by
    rw [← code] at outside
    simpa using outside
  cases r with
  | setGeometry x => rw [runRequest, takeSetGeometry, geometryChecks_eq, first]; rfl
  | setCorner x => rw [runRequest, takeSetCorner, cornerChecks_eq, first]; rfl
  | setCurve x => rw [runRequest, takeSetCurve, curveChecks_eq, first]; rfl
  | setRegulation x => rw [runRequest, takeSetRegulation, regulationChecks_eq, first]; rfl
  | setSafety x => rw [runRequest, takeSetSafety, safetyChecks_eq, first]; rfl
  | setGuard x => rw [runRequest, takeSetGuard, guardChecks_eq, first]; rfl
  | readCorner c =>
    obtain ⟨rfl, outside⟩ := FirstOutside.single h
    rw [runRequest, takeReadCorner, noCode (Corner.ofCode_isSome c) outside]; rfl
  | readEvents n =>
    obtain ⟨rfl, outside⟩ := FirstOutside.single h
    have : byteInRange 1 6 n = false := outside
    rw [runRequest, takeReadEvents, this]; rfl
  | driveState d v =>
    obtain ⟨rfl, outside⟩ := FirstOutside.single h
    rw [runRequest, takeDriveState, noCode (Travel.ofCode_isSome d) outside]; rfl
  | clearPreview c =>
    obtain ⟨rfl, outside⟩ := FirstOutside.single h
    rw [runRequest, takeClearPreview, isSomeCornerSet_eq, outside]; rfl
  | coilTest c =>
    obtain ⟨rfl, outside⟩ := FirstOutside.single h
    rw [runRequest, takeCoilTest, noCode (Corner.ofCode_isSome c) outside]; rfl
  | _ => exact absurd h.1 (Nat.not_lt_zero i)

/-- Settles O18: a request with a list of ranges has an allowed length, and its ranges are its checks. -/
theorem firstFieldOutOfRangeRefused : Obligations.FirstFieldOutOfRangeRefused := by
  intro tag r i s listening passed outside
  have allowed : r.lengthAllowed = true := by
    cases r with
    | setProfile p steps => exact absurd outside.1 (Nat.not_lt_zero i)
    | _ => rfl
  rw [exec_command_passed tag r s listening passed allowed, runRequest_outside s outside]
  rfl

/-! ### Settings replaced (R33, R104, R157) -/

/-- A threshold above the one below it. -/
theorem threshold_eq (below h : Half) : (inRange 100 5000 h && decide (below.toNat < h.toNat)) =
    decide (100 ≤ h.toNat ∧ below.toNat < h.toNat ∧ h.toNat ≤ 5000) := by
  rw [Bool.eq_iff_iff]
  simp only [inRange, Bool.and_eq_true, decide_eq_true_eq]
  omega

/-- The checks of SetDetection, written out. -/
theorem detectionChecks_eq (p : Preview) (r : DetectionRecord) : detectionChecks p r =
    [decide (100 ≤ r.tc1.toNat ∧ r.tc1.toNat ≤ 5000),
      decide (100 ≤ r.tc2.toNat ∧ r.tc1.toNat < r.tc2.toNat ∧ r.tc2.toNat ≤ 5000),
      decide (100 ≤ r.tc3.toNat ∧ r.tc2.toNat < r.tc3.toNat ∧ r.tc3.toNat ≤ 5000),
      decide (100 ≤ r.tr1.toNat ∧ r.tr1.toNat ≤ 5000),
      decide (100 ≤ r.tr2.toNat ∧ r.tr1.toNat < r.tr2.toNat ∧ r.tr2.toNat ≤ 5000),
      decide (100 ≤ r.tr3.toNat ∧ r.tr2.toNat < r.tr3.toNat ∧ r.tr3.toNat ≤ 5000),
      decide (r.hysteresis.toNat ≤ 1000), decide (50 ≤ r.windowMax.toNat ∧ r.windowMax.toNat ≤ 1000)] ++
      [r.mapC1, r.mapC2, r.mapC3, r.mapR1, r.mapR2, r.mapR3].map (fun b =>
        b = 0xFF || (decide (b.toNat ≤ 7) && (p.profile b.toNat).isSome)) := by
  simp only [detectionChecks, threshold_eq]
  simp [inRange, cellDefined, byteInRange]

/-- The first check of a list that fails, by its place. -/
theorem firstBad_getD {l : List Bool} {i : Nat} (h : i < l.length) (fails : l.getD i true = false)
    (before : ∀ j < i, l.getD j true = true) : firstBad l = some (i + 1) := by
  refine firstBad_eq_some l i h (fun b hb => ?_) fails
  obtain ⟨j, hj, rfl⟩ := List.mem_take_iff_getElem.1 hb
  have inside : j < l.length := by omega
  have := before j (by omega)
  rwa [List.getD_eq_getElem _ _ inside] at this

/-- Settles O19: with every check passed the settings are those of the record. -/
theorem settingsReplaced : Obligations.SettingsReplaced := by
  intro tag s
  refine ⟨fun r ⟨listening, part⟩ inside => ?_, fun r ⟨listening, part⟩ inside => ?_, fun r ok listening part hok => ?_⟩
  · have taken : exec (.setSafety tag r) s = .next (takeSetSafety tag r s) :=
      exec_command_passed tag (.setSafety r) s listening (by rw [part]; rfl) rfl
    rw [taken, takeSetSafety, safetyChecks_eq, firstBad_ranges_none _ inside]; rfl
  · have taken : exec (.setRegulation tag r) s = .next (takeSetRegulation tag r s) :=
      exec_command_passed tag (.setRegulation r) s listening (by rw [part]; rfl) rfl
    rw [taken, takeSetRegulation, regulationChecks_eq, firstBad_ranges_none _ inside]; rfl
  · have passed : stateTest (.setDetection r) s.control.part = none := by rcases part with h | h | h <;> rw [h] <;> rfl
    have taken : exec (.setDetection tag r) s = .next (takeSetDetection tag r s) :=
      exec_command_passed tag (.setDetection r) s listening passed rfl
    rw [← detectionChecks_eq] at hok
    subst hok
    rw [taken, takeSetDetection]
    refine ⟨fun all => ?_, fun i hi fails before => ?_⟩
    · rw [(firstBad_eq_none _).2 (by simpa [List.all_eq_true] using all)]; rfl
    · rw [firstBad_getD (by rw [detectionChecks_eq]; exact hi) fails before]; rfl

/-! ### Profiles (R58 to R60) -/

theorem StepMode.ofCode_isSome (b : Byte) :
    (StepMode.ofCode b).isSome = (decide (0 ≤ b.toNat) && decide (b.toNat ≤ 1)) := by
  revert b; decide

/-- The ranges of a step's fields (R59). -/
def stepRanges (st : StepRecord) : List (Nat × Nat × Nat) :=
  [(st.demand.toNat, 0, 1000), (st.mode.toNat, 0, 1), (st.length.toNat, 1, 5000)]

theorem stepChecks_eq (st : StepRecord) : stepChecks st = rangeChecks (stepRanges st) := by
  simp [stepChecks, rangeChecks, stepRanges, StepMode.ofCode_isSome, inRange]

/-- With every step's fields in range no step offends. -/
theorem badStep_none {steps : List StepRecord} (k : Nat) (h : ∀ st ∈ steps, AllInside (stepRanges st)) :
    badStep k steps = none := by
  induction steps generalizing k with
  | nil => rfl
  | cons st steps ih =>
    obtain ⟨first, rest⟩ := List.forall_mem_cons.1 h
    rw [badStep, stepChecks_eq, firstBad_ranges_none _ first]
    exact ih (k + 1) rest

/-- The first step with a field out of range offends. -/
theorem badStep_some {before after : List StepRecord} {st : StepRecord} {i : Nat} (k : Nat)
    (h : ∀ x ∈ before, AllInside (stepRanges x)) (outside : FirstOutside (stepRanges st) i) :
    badStep k (before ++ st :: after) = some (i + 2, k + before.length) := by
  induction before generalizing k with
  | nil => rw [List.nil_append, badStep, stepChecks_eq, firstBad_ranges_some _ _ outside]; rfl
  | cons x before ih =>
    obtain ⟨first, rest⟩ := List.forall_mem_cons.1 h
    rw [List.cons_append, badStep, stepChecks_eq, firstBad_ranges_none _ first]
    refine (ih (k + 1) rest).trans ?_
    rw [List.length_cons, Nat.add_assoc, Nat.add_comm 1]

/-- A step as it is written into the table. -/
theorem readStep_eq (st : StepRecord) :
    readStep st = ⟨st.demand.toNat, if st.mode = 1 then .floor else .set, st.length.toNat⟩ := by
  have mode (b : Byte) : (StepMode.ofCode b).getD .set = if b = 1 then .floor else .set := by revert b; decide
  rw [readStep, mode]

/-- A profile written is read back, and the others as they were. -/
theorem Preview.profile_written (p : Preview) {k : Nat} (hk : k ≤ 7) (x : List ProfileStep) (n : Nat) :
    ({ p with profiles := p.profiles.setIfInBounds k (some x) } : Preview).profile n =
      if n = k then some x else p.profile n := by
  have size : p.profiles.toList.length = 8 := by simp
  simp only [Preview.profile, Vector.toList_setIfInBounds, List.getD_eq_getElem?_getD, List.getElem?_set, size]
  by_cases same : n = k
  · subst same; simp [Nat.lt_succ_of_le hk]
  · simp [same, Ne.symm same]

/-- Settles O20: the profile number is judged first, then the steps in order. -/
theorem profileWritten : Obligations.ProfileWritten := by
  intro tag profile steps s fields listening part least most hf
  have ranges (st : StepRecord) : fields st = (stepRanges st) := by rw [hf]; rfl
  have passed : stateTest (.setProfile profile steps) s.control.part = none := by
    rcases part with h | h | h <;> rw [h] <;> rfl
  have allowed : (Request.setProfile profile steps).lengthAllowed = true := by
    simp [Request.lengthAllowed, least, most]
  have taken : exec (.setProfile tag profile steps) s = .next (takeSetProfile tag profile steps s) :=
    exec_command_passed tag (.setProfile profile steps) s listening passed allowed
  rw [taken, takeSetProfile, badProfileField]
  simp only [ranges]
  refine ⟨fun small inside => ?_, fun large => ?_, fun before st after i small hs earlier outside => ?_⟩
  · rw [if_pos (by simp [byteInRange, small]), badStep_none 0 inside]
    refine ⟨_, rfl, fun n => ?_, rfl⟩
    rw [funext (f := readStep) readStep_eq]
    exact s.preview.profile_written small _ n
  · rw [if_neg (by simp [byteInRange, large])]; rfl
  · subst hs
    rw [if_pos (by simp [byteInRange, small]), badStep_some 0 earlier outside, Nat.zero_add]; rfl

/-! ### Geometry (R4, R5, R8, R13) -/

/-- The speed of a wheel with a ring written (R8). -/
theorem wheelSpeed_some (g : Ring) (period : Option Nat) : wheelSpeed (some g) period = match period with
    | some p => min 80000 ((2 * (g.circumference * 1000000) + g.teeth * p) / (2 * (g.teeth * p)))
    | none => 0 := by
  cases period <;> rfl

/-- A hand-over of the vehicle speed finds nothing in empty queues. -/
theorem handSpeed_of_empty (before : Nat) {s : State} (h : ∀ c, s.queue.get c = []) :
    ∃ n, handSpeed before none s = { s with choices := n } := by
  obtain ⟨same, changed⟩ := handSpeed_handed before none s
  by_cases speed : s.dist.speed = before
  · exact ⟨s.choices, same speed⟩
  · obtain ⟨n, order, perm, folded⟩ := changed speed
    refine ⟨n, folded.trans ?_⟩
    have checks : ∀ x ∈ order, ∃ c, x = Sum.inl c := by
      intro x hx
      have := perm.mem_iff.1 hx
      simp only [Option.toList_none, List.map_nil, List.append_nil, List.mem_map] at this
      obtain ⟨c, -, rfl⟩ := this
      exact ⟨c, rfl⟩
    clear folded perm
    induction order with
    | nil => rfl
    | cons x order ih =>
      obtain ⟨⟨c, rfl⟩, rest⟩ := List.forall_mem_cons.1 checks
      rw [List.foldl_cons]
      simp only [maturityCheck_empty c ({ s with choices := n }) (h c)]
      exact ih rest

/-- Settles O21: the wheel speeds follow the new geometry, and empty queues take no part in the hand-over. -/
theorem geometryWritten : Obligations.GeometryWritten := by
  rintro tag r s speed ⟨listening, part⟩ empty inside rfl
  have taken : exec (.setGeometry tag r) s = .next (takeSetGeometry tag r s) :=
    exec_command_passed tag (.setGeometry r) s listening (by rw [part]; rfl) rfl
  rw [taken, takeSetGeometry, geometryChecks_eq, firstBad_ranges_none _ inside, writeGeometry]
  simp only
  generalize hd : Distance.withSpeed _ = d
  obtain ⟨n, handed⟩ := handSpeed_of_empty s.dist.speed (s := s.setDist d) empty
  rw [handed]
  refine ⟨_, rfl, ?_, rfl⟩
  subst hd
  simp only [Distance.withSpeed, vehicleSpeed, Wheel.respeed, wheelSpeed_some]
  rfl

/-! ### Corners and guards (R23, R24, R81, R85) -/

/-- A sensing block after SetCorner, field by field (R23, R24). -/
theorem Sensing.write_eq (r : CornerRecord) (x : Sensing) : x.write r = {
    enabled := decide (r.enabled = 1), invert := decide (r.invert = 1),
    scale := some (r.travelZero.toNat, r.travelScale.toNat), history := [],
    faulted := decide (r.enabled = 1) && x.faulted, bad := if r.enabled = 1 then x.bad else 0,
    good := if r.enabled = 1 then x.good else 0 } := by
  unfold Sensing.write
  by_cases enabled : r.enabled = 1#8
  · simp [enabled]
    rfl
  · simp [enabled]
    rfl

/-- Settles O22: the setup is the record's, and a corner made not Enabled loses its fault and its run counts. -/
theorem cornerWritten : Obligations.CornerWritten := by
  rintro tag c r s ⟨listening, part⟩ hc inside
  have taken : exec (.setCorner tag r) s = .next (takeSetCorner tag r s) :=
    exec_command_passed tag (.setCorner r) s listening (by rw [part]; rfl) rfl
  rw [taken, takeSetCorner, cornerChecks_eq, firstBad_ranges_none _ inside, hc, Corner.ofCode_code]
  simp only [Sensing.write_eq]
  rfl

/-- The band of a guard on a side. -/
def Guard.band (g : Guard) : Dir → Nat
  | .compression => g.bumpBand
  | .rebound => g.reboundBand

/-- What new settings leave of a guard and hand to its arbiter (R85). -/
theorem resetGuard_eq (c : Corner) (old g : Guard) (s : State) : resetGuard c old (s.setGuard c g) =
    match g.engaged with
    | none => s.setGuard c g
    | some d =>
      if g.band d = 0 then
        resolve c ((s.setGuard c { g with engaged := none, timer := none }).setArbiter c
          { s.arbiter.get c with guard := none })
      else if g.guardDemand = old.guardDemand then s.setGuard c g
      else resolve c ((s.setGuard c g).setArbiter c { s.arbiter.get c with guard := some g.guardDemand }) := by
  unfold resetGuard
  simp only [State.setGuard_guard, PerCorner.get_set_self]
  cases engaged : g.engaged with
  | none => rfl
  | some d =>
    have released : releaseGuard c (s.setGuard c g) =
        resolve c ((s.setGuard c { g with engaged := none, timer := none }).setArbiter c
          { s.arbiter.get c with guard := none }) := by
      simp [releaseGuard, engaged, handGuard, State.setGuard]
    rw [released]
    cases d <;> rfl

/-- A resolution leaves the link and the state controller alone. -/
theorem resolve_link (c : Corner) (s : State) : (resolve c s).link = s.link ∧ (resolve c s).control = s.control := by
  rw [resolve_eq]; exact ⟨rfl, rfl⟩

/-- New settings of a guard leave the link and the state controller alone. -/
theorem resetGuard_link (c : Corner) (old g : Guard) (s : State) :
    (resetGuard c old (s.setGuard c g)).link = s.link ∧ (resetGuard c old (s.setGuard c g)).control = s.control := by
  rw [resetGuard_eq]
  split
  · exact ⟨rfl, rfl⟩
  · split
    · exact resolve_link c _
    · split
      · exact ⟨rfl, rfl⟩
      · exact resolve_link c _

/-- The Summary goes by the link and the state controller. -/
theorem summary_congr {s t : State} (hl : t.link = s.link) (hc : t.control = s.control) : summary t = summary s := by
  rw [summary, hl, hc]; rfl

/-- A reply placed in a state with the link and the state controller of another. -/
theorem reply_of_same {s t : State} (tag kind : Byte) (status : Status) (payload : List Byte) (hl : t.link = s.link)
    (hc : t.control = s.control) : reply tag kind status payload t =
      { t with link := { s.link with replies := s.answered (kind + 0x80) tag status payload } } := by
  rw [reply_eq, summary_congr hl hc, hl]

/-- Settles O24: a guard that stays as it is hands nothing over, and any other hands its form to the arbiter. -/
theorem guardWritten : Obligations.GuardWritten := by
  rintro tag c r s g a listening part hc inside rfl hg
  have passed : stateTest (.setGuard r) s.control.part = none := by rcases part with h | h | h <;> rw [h] <;> rfl
  have taken : exec (.setGuard tag r) s = .next (takeSetGuard tag r s) :=
    exec_command_passed tag (.setGuard r) s listening passed rfl
  have written : takeSetGuard tag r s = reply tag 0x22 .ok [] (resetGuard c (s.guard.get c) (s.setGuard c g)) := by
    rw [takeSetGuard, guardChecks_eq, firstBad_ranges_none _ inside, hc, Corner.ofCode_code, hg]; rfl
  have demand : g.guardDemand = r.guardDemand.toNat := by rw [hg]
  have band (d : Dir) : g.band d = 0 ↔ (match d with | .compression => r.bumpBand | .rebound => r.reboundBand) = 0 := by
    rw [hg]
    cases d <;> exact ⟨fun h => BitVec.eq_of_toNat_eq h, fun h => congrArg BitVec.toNat h⟩
  obtain ⟨link, control⟩ := resetGuard_link c (s.guard.get c) g s
  rw [taken, written, reply_of_same _ _ _ _ link control]
  refine ⟨_, rfl, rfl, fun kept => ?_, fun d u he hb hu => ?_, fun d u he hb hd hu => ?_⟩
  · have same : resetGuard c (s.guard.get c) (s.setGuard c g) = s.setGuard c g := by
      rw [resetGuard_eq]
      split
      · rfl
      · next d he =>
        rcases kept with none | ⟨wide, equal⟩
        · exact absurd (he.symm.trans none) (by simp)
        · rw [if_neg fun h => wide d he ((band d).1 h), if_pos (demand.trans equal)]
    rw [same]; rfl
  · have released : resetGuard c (s.guard.get c) (s.setGuard c g) = u := by
      rw [resetGuard_eq, he, hu]
      exact if_pos ((band d).2 hb)
    rw [released]
  · have handed : resetGuard c (s.guard.get c) (s.setGuard c g) = u := by
      rw [resetGuard_eq, he, hu, ← demand]
      exact (if_neg fun h => hb ((band d).1 h)).trans (if_neg fun h => hd (demand.symm.trans h))
    rw [handed]

end Sys2Proof.Machine

/-! PROOF. The part states of chapter 9: Start, Stop, Park, the entry to Failsafe, Restart; and the arbiter's resolution (5.1). -/

namespace Sys2Proof.Machine

/-! ### CoilTests in flight cancelled (R129, R141, R177) -/

/-- A regulator whose CoilTest in flight, if any, has been answered. -/
def Regulator.answered (test : Option Byte) (r : Regulator) : Regulator :=
  { r with testWaiting := r.testWaiting && test.isNone }

@[simp] theorem Regulator.answered_none (r : Regulator) : r.answered none = r := by
  simp [Regulator.answered]

theorem Regulator.answered_of_idle {r : Regulator} (h : r.testWaiting = false) (test : Option Byte) :
    r.answered test = r := by
  rw [Regulator.answered, h, Bool.false_and, ← h]

/-- What cancelling one corner's CoilTest leaves. -/
theorem cancelTest_eq (c : Corner) (s : State) : cancelTest c s = { s with
    reg := s.reg.set c ((s.reg.get c).answered (s.link.inflight.get c)),
    link := { s.link with
      replies := s.link.replies ++ s.cancelledAnswers (summary s) [c],
      reservations := s.link.reservations - ([c].filter fun k => (s.link.inflight.get k).isSome).length,
      inflight := s.link.inflight.set c none } } := by
  rcases answerTest_cases c .cancelled [] s with ⟨free, same⟩ | ⟨tag, held, answered⟩
  · have slot : s.link.inflight.set c none = s.link.inflight := by rw [← free, PerCorner.set_get]
    rw [cancelTest, same, slot]
    simp [free, State.cancelledAnswers]
  · rw [cancelTest, answered]
    simp [held, State.cancelledAnswers, Regulator.answered]

/-- What cancelling the CoilTests of some corners, one after another, leaves. -/
theorem cancelTest_foldl (l : List Corner) (once : l.Nodup) (s : State) :
    l.foldl (fun t c => cancelTest c t) s = { s with
      reg := s.reg.mapIdx fun c r => if c ∈ l then r.answered (s.link.inflight.get c) else r,
      link := { s.link with
        replies := s.link.replies ++ s.cancelledAnswers (summary s) l,
        reservations := s.link.reservations - (l.filter fun k => (s.link.inflight.get k).isSome).length,
        inflight := s.link.inflight.mapIdx fun c o => if c ∈ l then none else o } } := by
  induction l generalizing s with
  | nil =>
    have regs : (s.reg.mapIdx fun c r => if c ∈ [] then r.answered (s.link.inflight.get c) else r) = s.reg :=
      PerCorner.ext_get fun c => by simp
    have slots : (s.link.inflight.mapIdx fun c o => if c ∈ [] then none else o) = s.link.inflight :=
      PerCorner.ext_get fun c => by simp
    rw [regs, slots]
    simp [State.cancelledAnswers]
  | cons c l ih =>
    obtain ⟨other, once⟩ := List.nodup_cons.1 once
    rw [List.foldl_cons, ih once, cancelTest_eq]
    have later (d : Corner) (hd : d ∈ l) : (s.link.inflight.set c none).get d = s.link.inflight.get d :=
      PerCorner.get_set_ne _ _ fun h => other (h ▸ hd)
    have regs : ((s.reg.set c ((s.reg.get c).answered (s.link.inflight.get c))).mapIdx fun d r =>
          if d ∈ l then r.answered ((s.link.inflight.set c none).get d) else r) =
        s.reg.mapIdx fun d r => if d ∈ c :: l then r.answered (s.link.inflight.get d) else r := by
      refine PerCorner.ext_get fun d => ?_
      simp only [PerCorner.get_mapIdx, PerCorner.get_set]
      by_cases same : d = c
      · subst same; simp [other]
      · simp [same]
    have slots : ((s.link.inflight.set c none).mapIdx fun d o => if d ∈ l then none else o) =
        s.link.inflight.mapIdx fun d o => if d ∈ c :: l then none else o := by
      refine PerCorner.ext_get fun d => ?_
      simp only [PerCorner.get_mapIdx, PerCorner.get_set]
      by_cases same : d = c
      · subst same; simp [other]
      · simp [same]
    have replies : l.filterMap (fun d => ((s.link.inflight.set c none).get d).map fun tag =>
          (⟨0xC4, tag, .cancelled, summary s, []⟩ : Reply)) = s.cancelledAnswers (summary s) l :=
      List.filterMap_congr fun d hd => by rw [later d hd]
    have count : (l.filter fun d => ((s.link.inflight.set c none).get d).isSome) =
        l.filter fun d => (s.link.inflight.get d).isSome :=
      List.filter_congr fun d hd => by rw [later d hd]
    show ({ s with
      reg := (s.reg.set c ((s.reg.get c).answered (s.link.inflight.get c))).mapIdx fun d r =>
        if d ∈ l then r.answered ((s.link.inflight.set c none).get d) else r,
      link := { s.link with
        replies := s.link.replies ++ s.cancelledAnswers (summary s) [c] ++
          l.filterMap fun d => ((s.link.inflight.set c none).get d).map fun tag =>
            (⟨0xC4, tag, .cancelled, summary s, []⟩ : Reply),
        reservations := s.link.reservations - ([c].filter fun k => (s.link.inflight.get k).isSome).length -
          (l.filter fun d => ((s.link.inflight.set c none).get d).isSome).length,
        inflight := (s.link.inflight.set c none).mapIdx fun d o => if d ∈ l then none else o } } : State) = _
    have answers : s.cancelledAnswers (summary s) [c] ++ s.cancelledAnswers (summary s) l =
        s.cancelledAnswers (summary s) (c :: l) := List.filterMap_append.symm
    have tests : ([c].filter fun k => (s.link.inflight.get k).isSome).length +
        (l.filter fun d => (s.link.inflight.get d).isSome).length =
        ((c :: l).filter fun d => (s.link.inflight.get d).isSome).length := by
      rw [← List.length_append, ← List.filter_append]; rfl
    rw [regs, slots, replies, count, List.append_assoc, answers, Nat.sub_sub, tests]

/-- Every CoilTest in flight cancelled, in some order of the corners. -/
theorem cancelTests_eq (s : State) : ∃ order : List Corner, order.Perm [.fl, .fr, .rl, .rr] ∧ cancelTests s = { s with
    choices := s.choices + 4,
    reg := s.reg.mapIdx fun c r => r.answered (s.link.inflight.get c),
    link := { s.link with
      replies := s.link.replies ++ s.cancelledAnswers (summary s) order,
      reservations := s.link.reservations - (Corner.list.filter fun k => (s.link.inflight.get k).isSome).length,
      inflight := ⟨none, none, none, none⟩ } } := by
  obtain ⟨order, perm, acted⟩ := forEachFree_order Corner.list cancelTest s
  have each (c : Corner) : c ∈ order := perm.mem_iff.2 (by cases c <;> decide)
  have once : order.Nodup := perm.nodup_iff.2 (by decide)
  have regs : (s.reg.mapIdx fun c r => if c ∈ order then r.answered (s.link.inflight.get c) else r) =
      s.reg.mapIdx fun c r => r.answered (s.link.inflight.get c) := PerCorner.ext_get fun c => by simp [each c]
  have slots : (s.link.inflight.mapIdx fun c o => if c ∈ order then none else o) = ⟨none, none, none, none⟩ :=
    PerCorner.ext_get fun c => by rw [PerCorner.get_mapIdx, if_pos (each c)]; cases c <;> rfl
  have count : (order.filter fun k => (s.link.inflight.get k).isSome).length =
      (Corner.list.filter fun k => (s.link.inflight.get k).isSome).length := (perm.filter _).length_eq
  refine ⟨order, perm, acted.trans ((cancelTest_foldl order once _).trans ?_)⟩
  show ({ s with
    choices := s.choices + 4
    reg := s.reg.mapIdx fun c r => if c ∈ order then r.answered (s.link.inflight.get c) else r
    link := { s.link with
      replies := s.link.replies ++ s.cancelledAnswers (summary s) order
      reservations := s.link.reservations - (order.filter fun k => (s.link.inflight.get k).isSome).length
      inflight := s.link.inflight.mapIdx fun c o => if c ∈ order then none else o } } : State) = _
  rw [regs, slots, count]

/-! ### Stop and Park (R161, R162) -/

/-- A regulator as Stop and Park leave it (R130, R141). -/
theorem enterOff_eq (r : Regulator) : enterOff r = if r.mode.keepsFault then
      { r with
        mode := .faulted, duty := 0, trim := 0, target := none, slot := none, testWaiting := false, openCount := 0 }
    else
      { r with
        mode := .off, duty := 0, trim := 0, target := none, slot := none, probeTimer := none, probeDue := false,
        testWaiting := false, openCount := 0 } := by
  unfold enterOff abandonTest
  cases mode : r.mode with
  | test count sum ret => cases ret <;> rfl
  | _ => simp [mode, Mode.keepsFault]

theorem enterOff_idle (r : Regulator) : (enterOff r).testWaiting = false := by
  rw [enterOff_eq]; split <;> rfl

/-- A change of the part state as its record (R150). -/
theorem event_byte (kind : EventKind) (corner : Option Corner) (d1 d2 tag : Byte) :
    event kind corner d1 d2 tag.toNat = ⟨kind, corner, d1, d2, tag.setWidth 16, 1⟩ := by
  rw [event, value16_byte]

/-- The answers to a request that queues a record and cancels the CoilTests in flight, its own reply last (R177, R184). -/
theorem reply_cancelTests (tag kind : Byte) {s u : State} {e : Event} (h : u.link = s.link.record e) :
    ∃ order : List Corner, order.Perm [.fl, .fr, .rl, .rr] ∧ reply tag kind .ok [] (cancelTests u) = { u with
      choices := u.choices + 4,
      reg := u.reg.mapIdx fun c r => r.answered (s.link.inflight.get c),
      link := { s.link.record e with
        replies := s.link.replies ++ s.cancelledAnswers (summary u) order ++ [⟨kind + 0x80, tag, .ok, summary u, []⟩],
        reservations := s.link.reservations - (Corner.list.filter fun k => (s.link.inflight.get k).isSome).length,
        inflight := ⟨none, none, none, none⟩ } } := by
  obtain ⟨order, perm, cancelled⟩ := cancelTests_eq u
  have answers : u.cancelledAnswers (summary u) order = s.cancelledAnswers (summary u) order := by
    simp only [State.cancelledAnswers, h, LinkState.record_inflight]
  rw [answers, h, LinkState.record_replies, LinkState.record_reservations, LinkState.record_inflight] at cancelled
  exact ⟨order, perm, by rw [cancelled, reply_eq]; simp only [summary, h]⟩

/-- Settles O26: the idled blocks beside what Stop and Park each write, then the answers. -/
theorem stopAndParkLeaveRunning : Obligations.StopAndParkLeaveRunning := by
  refine ⟨fun tag s listening part moving => ?_, fun tag s c listening h => ?_⟩
  · have taken : exec (.park tag) s = .next (takePark tag s) :=
      exec_command_passed tag .park s listening (by rcases part with h | h <;> rw [h] <;> rfl) rfl
    rw [taken, takePark, if_neg moving]; rfl
  · rcases h with ⟨rfl, part⟩ | ⟨rfl, part, still⟩
    · have taken : exec (.stop tag) s = .next (takeStop tag s) :=
        exec_command_passed tag .stop s listening (by rcases part with h | h <;> rw [h] <;> rfl) rfl
      obtain ⟨order, perm, replied⟩ := reply_cancelTests tag 0x31 (s := s) (u := { s.idled .configuring .stop tag with
        reg := s.reg.mapIdx fun _ r => { enterOff r with latched := false },
        dist := { s.dist with direction := .unknown, driveTimer := none },
        link := s.link.record ⟨.stateChanged, none, 1, 2, tag.setWidth 16, 1⟩ }) rfl
      rw [← event_byte .stateChanged none 1 2 tag] at replied
      rw [taken, takeStop, stopPart_eq]
      simp only [if_true, ← event_byte]
      refine ⟨_, congrArg Host.Outcome.next replied, ?_⟩
      refine ⟨rfl, fun k => ?_, fun f => ?_, rfl, fun k => ?_, fun k => ?_, fun k => ?_, fun k r hr => ?_, rfl,
        rfl, fun _ => ⟨rfl, rfl, rfl⟩, nofun, ⟨order, perm, rfl, rfl⟩, ?_⟩
      · exact ⟨PerCorner.get_all .., PerCorner.get_all ..⟩
      · cases f <;> rfl
      · exact PerCorner.get_all ..
      · exact PerCorner.get_mapIdx ..
      · exact PerCorner.get_mapIdx ..
      · rw [hr, ← enterOff_eq, PerCorner.get_mapIdx, PerCorner.get_mapIdx]
        exact Regulator.answered_of_idle (r := { enterOff (s.reg.get k) with latched := false }) (enterOff_idle _) _
      · rfl
    · have taken : exec (.park tag) s = .next (takePark tag s) :=
        exec_command_passed tag .park s listening (by rcases part with h | h <;> rw [h] <;> rfl) rfl
      obtain ⟨order, perm, replied⟩ := reply_cancelTests tag 0x34 (s := s) (u := { s.idled .parked .park tag with
        reg := s.reg.mapIdx fun _ r => { enterOff r with period := none, lastIm := 0 },
        sensing := s.sensing.mapIdx fun _ x => { x with history := [] },
        conv := { timer := none, pos := .idle },
        dist := { s.dist with
          wheel := ⟨s.dist.wheel.fl.park, s.dist.wheel.fr.park⟩,
          speed := 0, direction := .unknown, referenceSpeed := 0, driveTimer := none },
        link := s.link.record ⟨.stateChanged, none, 4, 6, tag.setWidth 16, 1⟩ }) rfl
      rw [← event_byte .stateChanged none 4 6 tag] at replied
      rw [taken, takePark, if_pos still, parkPart_eq]
      simp only [reduceCtorEq, if_false, ← event_byte]
      refine ⟨_, congrArg Host.Outcome.next replied, ?_⟩
      refine ⟨rfl, fun k => ?_, fun f => ?_, rfl, fun k => ?_, fun k => ?_, fun k => ?_, fun k r hr => ?_, rfl,
        rfl, nofun, fun _ => ⟨fun f => ?_, rfl, fun k => ?_, rfl⟩, ⟨order, perm, rfl, rfl⟩, ?_⟩
      · exact ⟨PerCorner.get_all .., PerCorner.get_all ..⟩
      · cases f <;> rfl
      · exact PerCorner.get_all ..
      · exact PerCorner.get_mapIdx ..
      · exact PerCorner.get_mapIdx ..
      · rw [hr, ← enterOff_eq, PerCorner.get_mapIdx, PerCorner.get_mapIdx]
        exact Regulator.answered_of_idle (r := { enterOff (s.reg.get k) with period := none, lastIm := 0 })
          (enterOff_idle _) _
      · cases f <;> rfl
      · exact PerCorner.get_mapIdx ..
      · rfl

/-! ### Start (R77, R112, R155, R156) -/

/-- An abandoned test excitation, field by field (R141). -/
theorem abandonTest_eq (r : Regulator) : abandonTest r = { r with
    mode := (match r.mode with
      | .test _ _ ret => ret.mode
      | m => m),
    duty := (match r.mode with
      | .test _ _ _ => 0
      | _ => r.duty) } := by
  obtain ⟨mode⟩ := r
  cases mode <;> rfl

/-- The elements of a list that pass a test, each with its own list. -/
theorem flatMap_filter_eq {α β : Type} (p : α → Bool) (f : α → List β) (l : List α) :
    (l.filter p).flatMap f = l.flatMap fun a => if p a then f a else [] := by
  induction l with
  | nil => rfl
  | cons a l ih => cases hp : p a <;> simp [hp, ih]

/-- What Start finds missing, item by item (R155). -/
theorem missingItems_eq (s : State) : missingItems s = (if s.dist.ring = none then [0x00, 0xFF] else []) ++
    (if Corner.list.all (fun c => !(s.sensing.get c).enabled) then [0x01, 0xFF] else []) ++
    [Corner.fl, .fr, .rl, .rr].flatMap (fun c =>
      if (s.sensing.get c).enabled ∧ (s.mapper.get c).curve = none then [0x02, c.code] else []) := by
  have empty : (Corner.list.filter fun c => (s.sensing.get c).enabled).isEmpty =
      Corner.list.all fun c => !(s.sensing.get c).enabled := by
    rw [Bool.eq_iff_iff, List.isEmpty_iff, List.filter_eq_nil_iff, List.all_eq_true]
    simp
  simp only [missingItems, List.filter_filter, flatMap_filter_eq, empty, Option.isNone_iff_eq_none, Bool.and_eq_true,
    and_comm]
  rfl

/-- An Enabled corner's outputs once its arbiter has begun, its regulator not regulating (R77, R97, R110). -/
theorem State.begunOutputs_eq {s : State} {c : Corner} {curve : Vector Nat 11}
    (enabled : (s.sensing.get c).enabled = true) (hc : (s.mapper.get c).curve = some curve)
    (last : (s.mapper.get c).last = none)
    (still : (abandonTest (s.reg.get c)).mode = .off ∨ (abandonTest (s.reg.get c)).mode = .faulted) :
    s.begunOutputs c = ({ curve := some curve, last := some (mapCurrent curve (s.control.defaultDemand.get c)) },
      { s.reg.get c with target := some (mapCurrent curve (s.control.defaultDemand.get c)) }) := by
  have stored : (s.reg.get c).mode = .off ∨ (s.reg.get c).mode = .faulted ∨
      (∃ n sum ret, (s.reg.get c).mode = .test n sum ret) ∨
      ((s.reg.get c).mode = .hold ∧ s.regulation.fixedLatency = false) := by
    rw [abandonTest_eq] at still
    cases mode : (s.reg.get c).mode <;> simp [mode] at still ⊢
  rw [State.begunOutputs, if_pos enabled]
  show handOn s.regulation s.now none (some (s.control.defaultDemand.get c)) (s.mapper.get c, s.reg.get c) = _
  simp [handOn, hc, last, takeTarget_stored _ _ stored]

/-- A regulator at a Start, its target handed already, and its CoilTest in flight answered. -/
theorem startRegulator_answered (g : Regulation) (band : Band) (c : Corner) (now : Nat) (test : Option Byte)
    (r : Regulator) : (startRegulator g band c now r).answered test =
      if r.mode = .faulted then r.answered test
      else if band = .hold then
        { r with
          mode := .hold, slot := none, duty := 0, trim := 0, probeTimer := none, probeDue := false,
          testWaiting := false, openCount := 0 }
      else
        { r with
          mode := .regulating, slot := none, duty := 0, trim := 0,
          probeTimer := if g.probeCorners.get c then some (now + 1000 * g.probeInterval) else r.probeTimer,
          probeDue := false, testWaiting := false } := by
  unfold startRegulator
  split
  · next faulted => rw [if_pos faulted]
  · next running =>
    rw [if_neg running]
    split
    · rfl
    · unfold startProbeTimer
      split
      · rfl
      · rfl

/-- A target stored does not touch the test excitation. -/
theorem abandonTest_target (m : Option Nat) (r : Regulator) :
    abandonTest { r with target := m } = { abandonTest r with target := m } := by
  rw [abandonTest_eq, abandonTest_eq]

/-- Settles O25: the missing items decide; then every corner is read after its own hand-over and its own entry. -/
theorem startChecksThenRuns : Obligations.StartChecksThenRuns := by
  rintro tag s items kept ⟨listening, part⟩ hi hk
  have taken : exec (.start tag) s = .next (takeStart tag s) :=
    exec_command_passed tag .start s listening (by rw [part]; rfl) rfl
  rw [← missingItems_eq] at hi
  have abandoned (c : Corner) : kept c = (abandonTest (s.reg.get c)).answered (s.link.inflight.get c) := by
    rw [hk, abandonTest_eq]; rfl
  refine ⟨fun missing => ?_, fun complete sound fresh still => ?_⟩
  · rw [taken, takeStart, ← hi]
    cases items with
    | nil => exact absurd rfl missing
    | cons i is => rfl
  · have run : takeStart tag s = reply tag 0x30 .ok [] (cancelTests (judgePreview (s.begun tag))) := by
      rw [takeStart, ← hi, complete, enterRunning_eq]
    have idle (c : Corner) (on : (s.sensing.get c).enabled = true) :
        (abandonTest (s.reg.get c)).mode = .off ∨ (abandonTest (s.reg.get c)).mode = .faulted := by
      have := still c on
      rwa [abandoned] at this
    have judged : judgePreview (s.begun tag) = { s.begun tag with
        preview := { s.preview with active := decide (s.dist.direction = .forward) && !s.dist.lost },
        link := s.link.record ⟨.stateChanged, none, 2, 1, tag.setWidth 16, 1⟩ } := by
      rw [judgePreview_of_inactive, ← event_byte]
      · rfl
      · exact sound.inactive (by rw [part]; decide)
    obtain ⟨order, perm, replied⟩ := reply_cancelTests tag 0x30 (s := s) (u := { s.begun tag with
      preview := { s.preview with active := decide (s.dist.direction = .forward) && !s.dist.lost },
      link := s.link.record ⟨.stateChanged, none, 2, 1, tag.setWidth 16, 1⟩ }) rfl
    rw [taken, run, judged]
    refine ⟨_, congrArg Host.Outcome.next replied, rfl, rfl, fun c off => ⟨?_, ?_, ?_⟩,
      fun c curve d r on hc hd hr => ⟨?_, ?_, ?_⟩, ⟨order, perm, rfl, rfl⟩, rfl⟩
    · exact (PerCorner.get_mapIdx ..).trans (if_neg (by rw [off]; decide))
    · exact (PerCorner.get_mapIdx ..).trans (congrArg Prod.fst (if_neg (by rw [off]; decide)))
    · have outputs : s.begunOutputs c = s.outputs c := if_neg (by rw [off]; decide)
      rw [PerCorner.get_mapIdx, State.begun, PerCorner.get_mapIdx, State.startedReg, if_neg (by rw [off]; decide), outputs,
        abandoned]
      rfl
    · rw [hd]
      exact (PerCorner.get_mapIdx ..).trans (if_pos on)
    · have outputs := s.begunOutputs_eq on hc (fresh c) (idle c on)
      rw [hd]
      exact (PerCorner.get_mapIdx ..).trans (congrArg Prod.fst outputs)
    · have outputs := s.begunOutputs_eq on hc (fresh c) (idle c on)
      rw [PerCorner.get_mapIdx, State.begun, PerCorner.get_mapIdx, State.startedReg, if_pos on, outputs,
        abandonTest_target, startRegulator_answered, hr, abandoned, hd]
      rfl

/-! ### Failsafe and Restart (R153, R158, R159) -/

/-- The demand timer's expiry (R158). -/
theorem demandExpiry_eq {s : State} {T : Nat} (h : s.control.demandTimer = some T) : demandExpiry s =
    if s.control.part = .running then enterFailsafe .demandTimeout .demandTimeout 0 { s with
      now := max s.now T, control := { s.control with demandTimer := none } }
    else { s with now := max s.now T, control := { s.control with demandTimer := none } } := by
  rw [demandExpiry, h]
  rfl

/-- Settles O27: both ways enter Failsafe by one operation; a Halt is answered after it. -/
theorem failsafeEntry : Obligations.FailsafeEntry := by
  refine ⟨fun s T part timer => ?_, fun tag s c now cause part h => ?_⟩
  · have expired : exec .demandTimeout s = .next (demandExpiry s) := rfl
    rw [expired, demandExpiry_eq timer, if_neg part]
  · rcases h with ⟨rfl, listening, rfl, rfl⟩ | ⟨T, rfl, rfl, timer, rfl, rfl⟩
    · obtain ⟨a, m, r, forms, entered⟩ := enterFailsafe_eq .halt .halt tag s
      have taken : exec (.halt tag) s = .next (takeHalt tag s) :=
        exec_command_passed tag .halt s listening (by rw [part]; rfl) rfl
      rw [taken, takeHalt, entered, event_byte, reply_eq, LinkState.record_replies]
      refine ⟨_, rfl, rfl, rfl, fun k => ⟨PerCorner.get_all .., PerCorner.get_all ..⟩, fun f => ?_, ?_, rfl, rfl⟩
      · cases f <;> rfl
      · rintro k b d old hb rfl rfl
        exact forms k b hb
    · obtain ⟨a, m, r, forms, entered⟩ := enterFailsafe_eq .demandTimeout .demandTimeout 0 { s with
        now := max s.now T, control := { s.control with demandTimer := none } }
      have expired : exec .demandTimeout s = .next (demandExpiry s) := rfl
      rw [expired, demandExpiry_eq timer, if_pos part, entered]
      refine ⟨_, rfl, rfl, rfl, fun k => ⟨PerCorner.get_all .., PerCorner.get_all ..⟩, fun f => ?_, ?_, ?_, rfl⟩
      · cases f <;> rfl
      · rintro k b d old hb rfl rfl
        exact forms k b hb
      · simp only [reduceCtorEq, if_false, List.append_nil]
        rw [← LinkState.record_replies (event .stateChanged none 3 4 0)]
        rfl

/-- Settles O29: every block takes its reset values, and the reply is placed after that. -/
theorem restartResets : Obligations.RestartResets := by
  rintro tag s _ listening part rfl
  have taken : exec (.restart tag) s = .next (restartPart tag s) :=
    exec_command_passed tag .restart s listening (by rcases part with h | h | h <;> rw [h] <;> rfl) rfl
  rw [taken, restartPart]
  cases s.link.outbound <;> rfl

/-! ### The arbiter (5.1) -/

/-- An Active arbiter resolved, level by level (R73). -/
theorem Arbiter.settled_eq {a : Arbiter} (active : a.active = true) :
    a.settled = (match a.failsafe, a.guard, a.preview with
      | some d, _, _ => { a with level := some .failsafe, resolved := some d }
      | none, some d, _ => { a with level := some .guard, resolved := some d }
      | none, none, some f => { a with
          level := some .preview,
          resolved := some (if f.mode = .set then f.demand else max f.demand (a.stored.getD 0)) }
      | none, none, none => { a with level := some .chassis, resolved := a.stored }) := by
  rw [Arbiter.settled_of_active active, Arbiter.winner]
  cases a.failsafe with
  | some d => rfl
  | none =>
    cases a.guard with
    | some d => rfl
    | none =>
      cases a.preview with
      | none => rfl
      | some f =>
        obtain ⟨demand, mode⟩ := f
        cases mode <;> rfl

/-- A resolution that hands nothing on changes the arbiter alone. -/
theorem resolve_kept {c : Corner} {s : State}
    (h : (s.arbiter.get c).handed s.regulation s.now (s.outputs c) = s.outputs c) :
    resolve c s = { s with arbiter := s.arbiter.set c (s.arbiter.get c).settled } := by
  rw [resolve_eq, h, State.outputs, PerCorner.set_get, PerCorner.set_get]

/-- Settles O30: the arbiter takes its winner, and the winner's value is handed on when it changes. -/
theorem arbiterResolves : Obligations.ArbiterResolves := by
  rintro c s _ b rfl hb
  have settled (active : (s.arbiter.get c).active = true) : (s.arbiter.get c).settled = b := by
    rw [hb]; exact Arbiter.settled_eq active
  have winner (active : (s.arbiter.get c).active = true) : (s.arbiter.get c).winner.2 = b.resolved := by
    rw [← settled active, Arbiter.settled_of_active active]
  refine ⟨fun idle => ?_, fun active same => ?_, fun d curve active new changed hc => ⟨fun last => ?_, fun last => ?_⟩⟩
  · simp [resolve, idle]
  · rw [resolve_kept, settled active]
    rw [Arbiter.handed, if_pos active, winner active]
    rcases same with none | same
    · rw [none]; rfl
    · rw [same, handOn_self]
  · rw [resolve_kept, settled active]
    rw [Arbiter.handed, if_pos active, winner active, new]
    simp [handOn, State.outputs, hc, last]
  · have handed : (s.arbiter.get c).handed s.regulation s.now (s.outputs c) =
        ({ curve := some curve, last := some (mapCurrent curve d) },
          takeTarget s.regulation s.now (mapCurrent curve d) (s.reg.get c)) := by
      rw [Arbiter.handed, if_pos active, winner active, new]
      simp [handOn, State.outputs, hc, last, changed]
    rw [resolve_eq, handed, settled active]

end Sys2Proof.Machine

/-! PROOF. Apply times (7.6), Demand (5.2), DriveState (1.7) and ClearPreview (3.8). -/

namespace Sys2Proof.Machine

/-! ### Apply times (R120) -/

/-- A pending target applied, by mode (R116, R117, R120). -/
theorem applyPending_eq (g : Regulation) {r : Regulator} {new : Nat} {applyAt : Option Nat}
    (h : r.slot = some ⟨new, applyAt⟩) : applyPending g r = match r.mode with
      | .regulating => kickOrQuench g r.targetNow new { r with slot := none }
      | .kick _ => if r.targetNow ≤ new then { r with slot := none, target := some new }
        else kickOrQuench g r.targetNow new { r with slot := none }
      | .quench _ => if new ≤ r.targetNow then { r with slot := none, target := some new }
        else kickOrQuench g r.targetNow new { r with slot := none }
      | .probe _ _ => { r with slot := some ⟨new, none⟩ }
      | .hold => { r with slot := none, target := some new }
      | .off => { r with slot := none, target := some new }
      | .test _ _ _ => { r with slot := none, target := some new }
      | .faulted => { r with slot := none, target := some new } := by
  rw [applyPending, h]
  cases r.mode <;> rfl

/-- Settles O33: the mode decides what becomes of the pending target. -/
theorem applyTimeByMode : Obligations.ApplyTimeByMode := by
  rintro c s g r test old new T rfl rfl slot target ht
  have expired : exec (.applyTime c) s = .next (applyTimeDone c s) := rfl
  have due : (s.reg.get c).slot.bind (·.applyAt) = some T := by rw [slot]; rfl
  have tested : kickOrQuench s.regulation old new { s.reg.get c with slot := none } = test := by
    rw [kickOrQuench_eq, ht]
  rw [expired, applyTimeDone, due]
  simp only [applyPending_eq _ slot, Regulator.targetNow_of_target target, tested]
  rfl

/-! ### Demand (R75, R76) -/

/-- An arbiter whose store a Demand may have written. -/
def Arbiter.demanded (h : Half) (a : Arbiter) : Arbiter :=
  match demandOf h with
  | none => a
  | some d => ({ a with stored := some d } : Arbiter).settled

/-- The mapper and the regulator of a corner whose store a Demand may have written. -/
def demandedOutputs (g : Regulation) (now : Nat) (h : Half) (a : Arbiter) (o : Mapper × Regulator) :
    Mapper × Regulator :=
  match demandOf h with
  | none => o
  | some d => ({ a with stored := some d } : Arbiter).handed g now o

theorem writeDemand_eq (c : Corner) (h : Half) (s : State) : writeDemand c h s = { s with
    arbiter := s.arbiter.set c ((s.arbiter.get c).demanded h),
    mapper := s.mapper.set c (demandedOutputs s.regulation s.now h (s.arbiter.get c) (s.outputs c)).1,
    reg := s.reg.set c (demandedOutputs s.regulation s.now h (s.arbiter.get c) (s.outputs c)).2 } := by
  unfold writeDemand Arbiter.demanded demandedOutputs
  cases demandOf h with
  | none => simp [State.outputs]
  | some d => exact resolve_setArbiter c _ s

theorem writeDemand_all (v : PerCorner Half) (s : State) :
    Corner.list.foldl (fun t c => writeDemand c (v.get c) t) s = { s with
      arbiter := s.arbiter.mapIdx fun c a => a.demanded (v.get c),
      mapper := s.mapper.mapIdx fun c _ =>
        (demandedOutputs s.regulation s.now (v.get c) (s.arbiter.get c) (s.outputs c)).1,
      reg := s.reg.mapIdx fun c _ =>
        (demandedOutputs s.regulation s.now (v.get c) (s.arbiter.get c) (s.outputs c)).2 } := by
  simp only [Corner.list, List.foldl, writeDemand_eq]
  rfl

/-- Keep leaves the arbiter, any other value is stored and resolved (R75). -/
theorem Arbiter.demanded_eq (h : Half) (a : Arbiter) : a.demanded h =
    if h.toNat = 65535 then a else ({ a with stored := some (min 1000 h.toNat) } : Arbiter).settled := by
  unfold Arbiter.demanded demandOf
  by_cases keep : h.toNat = 65535
  · rw [if_pos keep, if_pos keep]
  · rw [if_neg keep, if_neg keep]

/-- Keep and an Idle arbiter hand nothing on. -/
theorem demandedOutputs_eq (g : Regulation) (now : Nat) (h : Half) (a : Arbiter) (o : Mapper × Regulator) :
    demandedOutputs g now h a o = if h.toNat = 65535 ∨ a.active = false then o
      else handOn g now a.resolved ({ a with stored := some (min 1000 h.toNat) } : Arbiter).winner.2 o := by
  unfold demandedOutputs demandOf
  by_cases keep : h.toNat = 65535
  · rw [if_pos keep, if_pos (.inl keep)]
  · rw [if_neg keep]
    cases active : a.active with
    | false => rw [if_pos (.inr rfl)]; exact if_neg (by simp)
    | true => rw [if_neg (by simp [keep])]; exact if_pos rfl

/-- The demand timer restarts in Running and Failsafe (R158). -/
theorem demandNotice_eq {u : State}
    (h : u.control.part = .configuring ∨ u.control.part = .running ∨ u.control.part = .failsafe) :
    demandNotice u = { u with control := { u.control with
      demandTimer := if u.control.part = .configuring then u.control.demandTimer
        else some (u.now + 1000 * u.control.demandTimeout) } } := by
  unfold demandNotice State.driving
  rcases h with h | h | h
  · rw [if_neg (by simp [h]), if_pos h]
  · rw [if_pos (by simp [h]), if_neg (by simp [h])]; rfl
  · rw [if_pos (by simp [h]), if_neg (by simp [h])]; rfl

/-- Settles O34: each corner takes its own value, and the demand timer goes by the part state. -/
theorem demandWritesStores : Obligations.DemandWritesStores := by
  rintro tag v s status listening part rfl
  have taken : exec (.demand tag v) s = .next (takeDemand tag v s) :=
    exec_command_passed tag (.demand v) s listening (by rcases part with h | h | h <;> rw [h] <;> rfl) rfl
  have clamped : (Corner.list.any fun c => demandClamped (v.get c)) =
      Corner.list.any fun c => decide (1000 < (v.get c).toNat ∧ (v.get c).toNat < 65535) := by
    simp only [demandClamped, Bool.decide_and]
  have noticed := demandNotice_eq (u := Corner.list.foldl (fun t c => writeDemand c (v.get c) t) s)
    (by rw [writeDemand_all]; exact part)
  rw [taken, takeDemand, noticed, writeDemand_all, clamped]
  refine ⟨_, rfl, ?_, ?_, rfl, rfl, rfl⟩
  · rintro c a rfl
    exact (PerCorner.get_mapIdx ..).trans (Arbiter.demanded_eq ..)
  · rintro c a rfl
    exact Eq.trans (Prod.ext (PerCorner.get_mapIdx ..) (PerCorner.get_mapIdx ..)) (demandedOutputs_eq ..)

/-! ### The preview-active flag judged (R51, R52) -/

/-- What judging the flag leaves: the flag follows its condition; unless it turns false nothing else changes. -/
theorem judgePreview_kept {u : State} (h : previewCondition u = true ∨ u.preview.active = false) :
    judgePreview u = { u with preview := { u.preview with active := previewCondition u } } := by
  rcases h with on | off
  · simp [judgePreview, on, State.setPreview]
  · exact judgePreview_of_inactive off

/-- The flag turning false empties the preview blocks. -/
theorem judgePreview_flushed {u : State} (off : previewCondition u = false) (on : u.preview.active = true) :
    PreviewFlushed { u with preview := { u.preview with active := false } } (judgePreview u) := by
  have judged : judgePreview u = flushPreview { u with preview := { u.preview with active := false } } := by
    simp [judgePreview, off, on, State.setPreview]
  rw [judged]
  exact flushPreview_flushed _

/-- Judging the flag leaves everything else but the preview blocks and the hand-overs alone. -/
theorem judgePreview_frame (u : State) : judgePreview u = { u with
    preview := { u.preview with active := previewCondition u }, queue := (judgePreview u).queue,
    window := (judgePreview u).window, context := (judgePreview u).context, arbiter := (judgePreview u).arbiter,
    mapper := (judgePreview u).mapper, reg := (judgePreview u).reg } := by
  cases cond : previewCondition u with
  | true => rw [judgePreview_kept (.inl cond), cond]
  | false =>
    cases active : u.preview.active with
    | false => rw [judgePreview_kept (.inr active), cond]
    | true =>
      obtain ⟨-, -, -, -, frame⟩ := judgePreview_flushed cond active
      exact frame

/-- The flag judged twice is the flag judged once. -/
theorem judgePreview_again (u : State) : judgePreview (judgePreview u) = judgePreview u := by
  have cond : previewCondition (judgePreview u) = previewCondition u := by rw [judgePreview_frame]; rfl
  have active : (judgePreview u).preview.active = previewCondition u := by rw [judgePreview_frame]
  rw [judgePreview_kept, cond]
  · rw [← active]
  · rw [cond, active]
    cases previewCondition u
    · exact .inr rfl
    · exact .inl rfl

/-! ### DriveState (R14 to R16) -/

/-- The direction of a code of 0 to 2 (R14). -/
theorem Travel.ofCode_eq {b : Byte} (h : b.toNat ≤ 2) :
    Travel.ofCode b = some (if b = 0 then .forward else if b = 1 then .reverse else .neutral) := by
  revert b; decide

/-- DistanceLost evaluated and the flag judged: the record comes first, and the flag is judged once (R16, R51). -/
theorem judgePreview_evalDistanceLost {s : State} {lost : Bool}
    (hl : lost = (!s.dist.lost && s.dist.wheel.fl.speed = 0 && s.dist.wheel.fr.speed = 0 && 2000 ≤ s.dist.referenceSpeed)) :
    judgePreview (evalDistanceLost s) = judgePreview { s with
      dist := { s.dist with lost := lost || s.dist.lost },
      link := if lost then s.link.record (event .distanceLost none 0 0 s.dist.referenceSpeed) else s.link } := by
  unfold evalDistanceLost
  cases lost with
  | true =>
    rw [if_pos (by simpa [and_assoc] using hl.symm), judgePreview_again]
    rfl
  | false =>
    rw [if_neg (by simpa [and_assoc] using hl.symm)]
    rfl

/-- An answer placed once the flag has been judged. -/
theorem reply_judgePreview (tag kind : Byte) (status : Status) (payload : List Byte) (u : State) :
    reply tag kind status payload (judgePreview u) = { judgePreview u with link := { u.link with
      replies := u.link.replies ++ [⟨kind + 0x80, tag, status, summary u, payload⟩] } } := by
  have link : (judgePreview u).link = u.link := by rw [judgePreview_frame]
  have control : (judgePreview u).control = u.control := by rw [judgePreview_frame]
  exact reply_of_same _ _ _ _ link control

/-- Settles O35: DriveState and its timer's expiry both change the distance unit, and the flag is judged by it. -/
theorem driveStateSetsDirection : Obligations.DriveStateSetsDirection := by
  intro tag direction speed s c dist lost link now h
  generalize hu : ({ s with now := now, dist := dist, link := link } : State) = u
  have ends : exec c s = .next (if c = .driveStateTimeout then judgePreview u else
      reply tag 0x41 (if 80000 < speed.toNat then .clamped else .ok) [] (judgePreview u)) ∧
      link.replies = s.link.replies := by
    rcases h with ⟨rfl, listening, admitted, part, hlost, rfl, rfl, rfl⟩ | ⟨T, rfl, timer, rfl, rfl, rfl⟩
    · have taken : exec (.driveState tag direction speed) s = .next (takeDriveState tag direction speed s) :=
        exec_command_passed tag (.driveState direction speed) s listening
          (by rcases part with h | h | h <;> rw [h] <;> rfl) rfl
      refine ⟨?_, by split <;> simp⟩
      rw [taken, takeDriveState, Travel.ofCode_eq admitted]
      simp only
      rw [judgePreview_evalDistanceLost (lost := lost), ← hu]
      · rfl
      · have bound : decide (2000 ≤ min 80000 speed.toNat) = decide (2000 ≤ speed.toNat) := by
          rw [Bool.eq_iff_iff]; simp
        rw [hlost, ← bound]; rfl
    · have expired : exec .driveStateTimeout s = .next (driveTimeout s) := rfl
      refine ⟨?_, rfl⟩
      rw [expired, driveTimeout, timer, if_pos rfl, ← hu]
      rfl
  obtain ⟨ends, replies⟩ := ends
  have hlink : u.link = link := by rw [← hu]
  have frame := judgePreview_frame u
  obtain ⟨answered, ends, hl⟩ : ∃ answered, exec c s = .next { judgePreview u with link := answered } ∧
      answered = { link with replies := s.link.replies ++ if c = .driveStateTimeout then [] else
        [⟨0xC1, tag, if 80000 < speed.toNat then .clamped else .ok, summary u, []⟩] } := by
    by_cases timeout : c = .driveStateTimeout
    · refine ⟨_, ?_, rfl⟩
      have same : (judgePreview u).link = u.link := by rw [frame]
      rw [ends, if_pos timeout, if_pos timeout, List.append_nil, ← replies, ← hlink]
      exact congrArg (fun l => Host.Outcome.next { judgePreview u with link := l }) same
    · refine ⟨_, ?_, rfl⟩
      rw [ends, if_neg timeout, if_neg timeout, reply_judgePreview, hlink, replies]
      rfl
  have sum : summary ({ judgePreview u with link := answered } : State) = summary u := by
    rw [frame, hl, summary, summary, hlink]
  have active : (judgePreview u).preview.active = previewCondition u := by rw [frame]
  have flag : s.preview.active = u.preview.active := by rw [← hu]
  refine ⟨_, ends, ?_, ?_, ?_, fun kept => ?_, fun off on => ?_⟩
  · rw [frame, ← hu]
  · rw [frame, ← hu]; rfl
  · rw [sum]; exact hl
  · have kept := judgePreview_kept (u := u) (by rw [← active, ← flag]; exact kept)
    rw [kept, ← hu]
  · have flushed := judgePreview_flushed (u := u) (by rw [← active]; exact off) (by rw [← flag]; exact on)
    obtain ⟨empty, closed, same, emptied, -⟩ := flushed
    subst hu
    refine ⟨empty, closed, same, emptied, ?_⟩
    rw [frame]

/-! ### ClearPreview (R56, R68) -/

/-- What clearing one corner leaves. -/
theorem clearCorner_eq (c : Corner) (s : State) : (clearCorner c s).1 = { s with
    queue := s.queue.set c [], context := s.context.set c none,
    arbiter := s.arbiter.set c ((s.arbiter.get c).emptied (s.context.get c)),
    mapper := s.mapper.set c
      (emptiedOutputs s.regulation s.now (s.context.get c) (s.arbiter.get c) (s.outputs c)).1,
    reg := s.reg.set c
      (emptiedOutputs s.regulation s.now (s.context.get c) (s.arbiter.get c) (s.outputs c)).2 } :=
  emptyContext_explicit c (s.setQueue c [])

theorem clearCorners_state (l : List Corner) (s : State) :
    (clearCorners l s).1 = l.foldl (fun t c => (clearCorner c t).1) s := by
  induction l generalizing s with
  | nil => rfl
  | cons c l ih => exact ih _

/-- The three bytes a cleared corner reports (R56). -/
def State.clearedBytes (s : State) (c : Corner) : List Byte :=
  [c.code, byteOf (s.queue.get c).length, flagByte (s.context.get c).isSome]

/-- Each corner reports what stood at it before. -/
theorem clearCorners_bytes (l : List Corner) (once : l.Nodup) (s : State) :
    (clearCorners l s).2 = l.flatMap s.clearedBytes := by
  induction l generalizing s with
  | nil => rfl
  | cons c l ih =>
    obtain ⟨other, once⟩ := List.nodup_cons.1 once
    have rest : l.flatMap (clearCorner c s).1.clearedBytes = l.flatMap s.clearedBytes := by
      refine List.flatMap_congr fun d hd => ?_
      have apart : d ≠ c := fun h => other (h ▸ hd)
      simp only [State.clearedBytes, clearCorner_eq, PerCorner.get_set_ne _ _ apart]
    show (clearCorner c s).2 ++ (clearCorners l (clearCorner c s).1).2 = _
    rw [ih once, rest]
    rfl

/-- The corners of a set cleared. -/
theorem clearCorners_eq (p : Corner → Bool) (s : State) : (clearCorners (Corner.list.filter p) s).1 = { s with
    queue := s.queue.mapIdx fun c q => if p c then [] else q,
    context := s.context.mapIdx fun c x => if p c then none else x,
    arbiter := s.arbiter.mapIdx fun c a => if p c then a.emptied (s.context.get c) else a,
    mapper := s.mapper.mapIdx fun c m => if p c then
      (emptiedOutputs s.regulation s.now (s.context.get c) (s.arbiter.get c) (s.outputs c)).1 else m,
    reg := s.reg.mapIdx fun c r => if p c then
      (emptiedOutputs s.regulation s.now (s.context.get c) (s.arbiter.get c) (s.outputs c)).2 else r } := by
  have own (c : Corner) (t : State) : (if p c then (clearCorner c t).1 else t) = { t with
      queue := t.queue.set c (if p c then [] else t.queue.get c),
      context := t.context.set c (if p c then none else t.context.get c),
      arbiter := t.arbiter.set c
        (if p c then (t.arbiter.get c).emptied (t.context.get c) else t.arbiter.get c),
      mapper := t.mapper.set c (if p c then
        (emptiedOutputs t.regulation t.now (t.context.get c) (t.arbiter.get c) (t.outputs c)).1 else t.mapper.get c),
      reg := t.reg.set c (if p c then
        (emptiedOutputs t.regulation t.now (t.context.get c) (t.arbiter.get c) (t.outputs c)).2 else t.reg.get c) } := by
    cases p c with
    | true => exact clearCorner_eq c t
    | false => simp
  rw [clearCorners_state, List.foldl_filter]
  simp only [own, Corner.list, List.foldl]
  rfl

/-- Settles O37: a corner of the set is cleared on its own, and any other is left. -/
theorem clearPreviewEmptiesCorners : Obligations.ClearPreviewEmptiesCorners := by
  rintro tag corners s payload listening part least most rfl
  have taken : exec (.clearPreview tag corners) s = .next (takeClearPreview tag corners s) :=
    exec_command_passed tag (.clearPreview corners) s listening (by rcases part with h | h | h <;> rw [h] <;> rfl) rfl
  have named : cornersOf corners = Corner.list.filter fun c => corners.getLsbD c.code.toNat := rfl
  have bytes := clearCorners_bytes (Corner.list.filter fun c => corners.getLsbD c.code.toNat)
    (List.Nodup.filter _ (by decide)) s
  have cleared : takeClearPreview tag corners s =
      reply tag 0x43 .ok (clearCorners (cornersOf corners) s).2 (clearCorners (cornersOf corners) s).1 :=
    if_pos (by simp [isSomeCornerSet_eq, least, most])
  rw [taken, cleared, named, bytes, clearCorners_eq]
  refine ⟨_, rfl, fun c out => ⟨?_, ?_, ?_, ?_⟩, fun c inside => ⟨?_, ?_, ?_⟩, rfl, rfl⟩
  · exact (PerCorner.get_mapIdx ..).trans (if_neg (by simp [out]))
  · exact (PerCorner.get_mapIdx ..).trans (if_neg (by simp [out]))
  · exact (PerCorner.get_mapIdx ..).trans (if_neg (by simp [out]))
  · exact Prod.ext ((PerCorner.get_mapIdx ..).trans (if_neg (by simp [out])))
      ((PerCorner.get_mapIdx ..).trans (if_neg (by simp [out])))
  · exact (PerCorner.get_mapIdx ..).trans (if_pos inside)
  · exact (PerCorner.get_mapIdx ..).trans (if_pos inside)
  · rintro a rfl
    refine ⟨(PerCorner.get_mapIdx ..).trans ((if_pos inside).trans ?_),
      Eq.trans (b := emptiedOutputs s.regulation s.now (s.context.get c) (s.arbiter.get c) (s.outputs c))
        (Prod.ext ((PerCorner.get_mapIdx ..).trans (if_pos inside)) ((PerCorner.get_mapIdx ..).trans (if_pos inside))) ?_⟩
    · cases s.context.get c <;> rfl
    · cases s.context.get c with
      | none => rfl
      | some x => cases active : (s.arbiter.get c).active <;> simp [emptiedOutputs, Arbiter.handed, active]

end Sys2Proof.Machine

/-! PROOF. The profile runner and the maturity check (3.5, 4.2 to 4.4). -/

namespace Sys2Proof.Machine

/-! ### Steps that end by distance (R65, R66) -/

/-- A distance below 2^31 mm is read without a sign (R2). -/
theorem signedDiff_of_lt {a b : Odo} (h : (b - a).toNat < 2 ^ 31) : signedDiff a b = (b - a).toNat :=
  BitVec.toInt_eq_toNat_of_lt (by omega)

/-- A nominal start moved on by a length within the distance (R65). -/
theorem distance_after {start odometer : Odo} {length : Nat} (h : length ≤ (odometer - start).toNat) :
    (odometer - (start + BitVec.ofNat 32 length)).toNat = (odometer - start).toNat - length := by
  have small : (BitVec.ofNat 32 length).toNat = length := by
    rw [BitVec.toNat_ofNat]; exact Nat.mod_eq_of_lt (lt_of_le_of_lt h (BitVec.isLt _))
  rw [sub_add_eq_sub_sub, BitVec.toNat_sub_of_le (by rw [BitVec.le_def, small]; exact h), small]

/-- Every step whose end the odometer has reached is ended, with the nominal starts kept. -/
theorem endSteps_eq {odometer : Odo} (ended rest : List ProfileStep) (k : Nat) (x : Context)
    (hx : x.steps.drop x.index = ended ++ rest) (some : ended ++ rest ≠ []) (hk : ended.length ≤ k)
    (passed : (ended.map (·.length)).sum ≤ (odometer - x.start).toNat) (near : (odometer - x.start).toNat < 2 ^ 31)
    (ahead : ∀ st ∈ rest.head?, (odometer - x.start).toNat < (ended.map (·.length)).sum + st.length) :
    endSteps odometer k x = if rest = [] then none else Option.some { x with
      index := x.index + ended.length, start := x.start + BitVec.ofNat 32 (ended.map (·.length)).sum } := by
  induction ended generalizing k x with
  | nil =>
    cases rest with
    | nil => exact absurd rfl some
    | cons st after =>
      have same : ({ x with index := x.index + 0, start := x.start + BitVec.ofNat 32 0 } : Context) = x := by simp
      simp only [List.map_nil, List.sum_nil, List.length_nil, same, reduceCtorEq, if_false]
      cases k with
      | zero => rfl
      | succ k =>
        have step : x.step = Option.some st := by
          rw [Context.step, ← List.head?_drop, hx]; rfl
        have open' := ahead st rfl
        rw [endSteps, step]
        refine if_neg ?_
        rw [signedDiff_of_lt near]
        simp only [List.map_nil, List.sum_nil, Nat.zero_add] at open'
        omega
  | cons st ended ih =>
    obtain ⟨k, rfl⟩ := Nat.exists_eq_add_of_le' (Nat.le_of_add_left_le hk)
    simp only [List.map_cons, List.sum_cons, List.length_cons] at *
    have step : x.step = Option.some st := by
      rw [Context.step, ← List.head?_drop, hx]; rfl
    have next : x.steps.drop (x.index + 1) = ended ++ rest := by
      rw [← List.drop_drop, hx]; rfl
    have reached : (st.length : Int) ≤ signedDiff x.start odometer := by
      rw [signedDiff_of_lt near]; omega
    rw [endSteps, step]
    simp only [reached, if_true]
    by_cases more : x.index + 1 < x.steps.length
    · have after := distance_after (start := x.start) (odometer := odometer) (length := st.length) (by omega)
      have left : ended ++ rest ≠ [] := by
        rw [← next]; simpa using more
      have start : x.start + BitVec.ofNat 32 st.length + BitVec.ofNat 32 (ended.map (·.length)).sum =
          x.start + BitVec.ofNat 32 (st.length + (ended.map (·.length)).sum) := by
        rw [add_assoc, BitVec.ofNat_add]
      rw [if_pos more, ih k _ next left (by omega)]
      · simp only [start, Nat.add_assoc, Nat.add_comm 1]
      · rw [after]; omega
      · rw [after]; omega
      · intro st' hst
        have := ahead st' hst
        rw [after]; omega
    · have left : ended ++ rest = [] := by
        rw [← next, List.drop_eq_nil_iff]; omega
      rw [if_neg more, if_pos (List.append_eq_nil_iff.1 left).2]

/-! ### Entries offered to the runner (R62, R63) -/

/-- An entry of a defined profile starts. -/
theorem startEntry_eq {c : Corner} {e : Entry} {s : State} {steps : List ProfileStep}
    (h : s.preview.profile e.profile = some steps) : startEntry c e s = resolve c { s with
      context := s.context.set c (some {
        profile := e.profile, steps := steps, index := 0, start := s.dist.odometer, cls := e.cls, id := e.id,
        dir := e.dir, origin := e.origin, source := e.source }),
      arbiter := s.arbiter.set c { s.arbiter.get c with
        preview := steps.head?.map fun st : ProfileStep => StepForm.mk st.demand st.mode } } := by
  rw [startEntry, h]
  simp only [handPreview, Context.step, ← List.head?_drop, List.drop_zero]
  rfl

/-- An Empty context, or one of its own class or a lower, lets an entry start. -/
theorem offerToRunner_starts {c : Corner} {e : Entry} {s : State} (h : ∀ x, s.context.get c = some x → x.cls ≤ e.cls) :
    offerToRunner c e s = startEntry c e s := by
  unfold offerToRunner
  split
  · rfl
  · next x hx => exact if_pos (h x hx)

/-- The heads of a queue that a maturity check takes (R48). -/
theorem maturityCheck_eq {c : Corner} {s : State} {taken rest : List Entry} (hq : s.queue.get c = taken ++ rest)
    (due : ∀ e ∈ taken, mature s e = true) (wait : ∀ e ∈ rest.head?, mature s e = false) :
    maturityCheck c s = taken.foldl (fun u e => offerToRunner c e u) { s with queue := s.queue.set c rest } := by
  have heads : maturing c s = taken := by
    rw [maturing, hq, List.takeWhile_append_of_pos due]
    cases rest with
    | nil => simp
    | cons e rest => simp [wait e rfl]
  have tail : (s.queue.get c).dropWhile (mature s) = rest := by
    rw [hq, List.dropWhile_append_of_pos due]
    cases rest with
    | nil => rfl
    | cons e rest => simp [wait e rfl]
  rw [maturityCheck, heads, tail]
  rfl

/-- Settles O42: the steps ended decide what the runner hands over; the classes decide an offer; the lead decides maturity. -/
theorem stepsEndByDistance : Obligations.StepsEndByDistance := by
  refine ⟨fun c s x ended rest passed hx hi hs hp reached near ahead => ?_, fun c e s steps hp lower => ?_,
    fun c e s x hx lower => ?_, fun c s taken rest lead hl hq due wait => ?_⟩
  · subst hp
    have left : ended ++ rest ≠ [] := by rw [← hs]; simpa using hi
    have enough : ended.length ≤ x.steps.length := by
      have := congrArg List.length hs
      rw [List.length_drop, List.length_append] at this
      omega
    have ends := endSteps_eq ended rest x.steps.length x hs left enough reached near ahead
    refine ⟨fun none => ?_, fun none some => ?_, fun st after some next => ?_⟩
    · rw [runnerNotice, hx]
      simp only [ends, if_pos none]
      rw [emptyContext, hx]
      rfl
    · rw [runnerNotice, hx]
      simp only [ends, if_neg some, none]
      exact if_pos rfl
    · have here : x.steps[x.index + ended.length]? = Option.some st := by
        rw [← List.head?_drop, ← List.drop_drop, hs, List.drop_left, next]; rfl
      have moved : x.index + ended.length ≠ x.index := by
        have := List.length_pos_iff.2 some; omega
      rw [runnerNotice, hx]
      simp only [ends, next, reduceCtorEq, if_false, moved, Context.step, here]
      rfl
  · rw [offerToRunner_starts lower, startEntry_eq hp]
  · have superseded : ¬ x.cls ≤ e.cls := Nat.not_le.2 lower
    rw [offerToRunner, hx]
    exact if_neg superseded
  · subst hl
    refine maturityCheck_eq hq (fun e he => ?_) fun e he => ?_
    · exact decide_eq_true (due e he)
    · exact decide_eq_false (Int.not_le.2 (wait e he))

/-! ### InjectPreview (R54, R55) -/

/-- The entry an InjectPreview makes, with its Id. -/
def injectedEntry (r : InjectRecord) (odometer : Odo) (id : Byte) : Entry := {
  id := id, arrival := odometer + r.distance.setWidth 32, cls := r.cls.toNat,
  dir := if r.direction = 0 then .compression else .rebound, profile := r.profile.toNat, origin := .injected,
  source := none }

/-- The checks of InjectPreview, written out (R54). -/
theorem injectChecks_eq (p : Preview) (r : InjectRecord) : injectChecks p r =
    [decide (1 ≤ r.corners.toNat ∧ r.corners.toNat ≤ 15), decide (r.distance.toNat ≤ 60000),
      decide (1 ≤ r.cls.toNat ∧ r.cls.toNat ≤ 3), decide (r.direction.toNat ≤ 1),
      decide (r.profile.toNat ≤ 7) && (p.profile r.profile.toNat).isSome] := by
  have dir (b : Byte) : (Dir.ofCode b).isSome = decide (b.toNat ≤ 1) := by revert b; decide
  simp [injectChecks, isSomeCornerSet_eq, inRange, byteInRange, dir]

/-- A Direction in range, read (R182). -/
theorem Dir.ofCode_getD {b : Byte} (h : b.toNat ≤ 1) :
    (Dir.ofCode b).getD .compression = if b = 0 then .compression else .rebound := by
  revert b; decide

/-- An entry offered at one named corner, the reply's bytes put after those before (R55). -/
def injectOffer (r : InjectRecord) (s : State) (p : State × List Byte) (c : Corner) : State × List Byte :=
  if (s.sensing.get c).enabled then
    ((offerToQueue c (injectedEntry r s.dist.odometer p.1.preview.nextId) (drawId p.1)).1, p.2 ++
      [c.code, (offerToQueue c (injectedEntry r s.dist.odometer p.1.preview.nextId) (drawId p.1)).2.1.code,
        (offerToQueue c (injectedEntry r s.dist.odometer p.1.preview.nextId) (drawId p.1)).2.2])
  else (p.1, p.2 ++ [c.code, 4, 0xFF])

/-- The named corners taken one after another. -/
theorem injectCorners_eq (r : InjectRecord) (s : State) (hd : r.direction.toNat ≤ 1) (l : List Corner) (t : State)
    (bytes : List Byte) (ht : ∀ c, (t.sensing.get c).enabled = (s.sensing.get c).enabled) :
    l.foldl (injectOffer r s) (t, bytes) =
      ((injectCorners r (s.dist.odometer + r.distance.setWidth 32) l t).1,
        bytes ++ (injectCorners r (s.dist.odometer + r.distance.setWidth 32) l t).2) := by
  induction l generalizing t bytes with
  | nil => simp [injectCorners]
  | cons c l ih =>
    have one : injectOffer r s (t, bytes) c =
        ((injectCorner r (s.dist.odometer + r.distance.setWidth 32) c t).1,
          bytes ++ (injectCorner r (s.dist.odometer + r.distance.setWidth 32) c t).2) := by
      unfold injectOffer injectCorner
      rw [ht c, Dir.ofCode_getD hd]
      split <;> rfl
    have kept : ∀ d, ((injectCorner r (s.dist.odometer + r.distance.setWidth 32) c t).1.sensing.get d).enabled =
        (s.sensing.get d).enabled := fun d =>
      ((injectCorner_framed r _ c t).enabled d).trans (ht d)
    rw [List.foldl_cons, one, ih _ _ kept, List.append_assoc]
    rfl

/-- An entry offered to an empty queue (R45, R48, R55). -/
theorem offerToQueue_empty {c : Corner} {e : Entry} {s : State} (h : s.queue.get c = []) :
    offerToQueue c e s = (maturityCheck c (s.setQueue c [e]), if mature s e then .maturedAtOnce else .inserted, e.id) := by
  have heads : maturing c (s.setQueue c [e]) = if mature s e then [e] else [] := by
    rw [maturing, State.setQueue_queue, PerCorner.get_set_self, List.takeWhile_cons]
    rfl
  unfold offerToQueue
  rw [h]
  show (maturityCheck c (s.setQueue c [e]), if e ∈ maturing c (s.setQueue c [e]) then Outcome.maturedAtOnce else .inserted,
    e.id) = _
  rw [heads]
  cases mature s e <;> simp

/-- An injected entry is mature when its Distance is within the lead (R48, R54). -/
theorem mature_injected (r : InjectRecord) (id : Byte) (s : State) : mature s (injectedEntry r s.dist.odometer id) =
    decide (r.distance.toNat ≤ s.dist.speed * s.dist.leadTime / 1000) := by
  have ahead : s.dist.odometer + r.distance.setWidth 32 - s.dist.odometer = r.distance.setWidth 32 := by
    rw [add_sub_cancel_left]
  have value : (r.distance.setWidth 32 : Odo).toNat = r.distance.toNat := by
    rw [BitVec.toNat_setWidth]; exact Nat.mod_eq_of_lt (lt_trans r.distance.isLt (by decide))
  have remains : signedDiff s.dist.odometer (s.dist.odometer + r.distance.setWidth 32) = (r.distance.toNat : Int) := by
    rw [signedDiff_of_lt (by rw [ahead, value]; exact lt_trans r.distance.isLt (by decide)), ahead, value]
  show decide (signedDiff _ (s.dist.odometer + r.distance.setWidth 32) ≤ ((s.dist.speed * s.dist.leadTime / 1000 : Nat) : Int)) = _
  rw [remains, Bool.eq_iff_iff]
  simp only [decide_eq_true_eq]
  omega

/-- An injected entry that waits in an empty queue. -/
theorem offerToQueue_waits {c : Corner} {r : InjectRecord} {s : State} (id : Byte) (h : s.queue.get c = [])
    (far : s.dist.speed * s.dist.leadTime / 1000 < r.distance.toNat) :
    offerToQueue c (injectedEntry r s.dist.odometer id) s =
      ({ s with queue := s.queue.set c [injectedEntry r s.dist.odometer id] }, .inserted, id) := by
  have later : mature s (injectedEntry r s.dist.odometer id) = false := by
    rw [mature_injected]; exact decide_eq_false (Nat.not_le.2 far)
  rw [offerToQueue_empty h, later, maturityCheck_eq (taken := []) (rest := [injectedEntry r s.dist.odometer id])]
  · simp only [State.setQueue, PerCorner.set_set]
    rfl
  · exact PerCorner.get_set_self ..
  · exact nofun
  · rintro _ ⟨⟩
    exact later

/-- An injected entry that starts its profile at once. -/
theorem offerToQueue_starts {c : Corner} {r : InjectRecord} {s : State} (id : Byte)
    (h : s.queue.get c = []) (free : s.context.get c = none)
    (near : r.distance.toNat ≤ s.dist.speed * s.dist.leadTime / 1000) :
    offerToQueue c (injectedEntry r s.dist.odometer id) s =
      (startEntry c (injectedEntry r s.dist.odometer id) s, .maturedAtOnce, id) := by
  have now : mature s (injectedEntry r s.dist.odometer id) = true := by
    rw [mature_injected]; exact decide_eq_true near
  have back : s.queue.set c [] = s.queue := by rw [← h, PerCorner.set_get]
  rw [offerToQueue_empty h, now, maturityCheck_eq (taken := [injectedEntry r s.dist.odometer id]) (rest := [])]
  · simp only [State.setQueue, PerCorner.set_set, List.foldl, back]
    rw [offerToRunner_starts]
    · rfl
    · intro x hx
      exact absurd (hx.symm.trans free) (by simp)
  · exact PerCorner.get_set_self ..
  · rintro _ (_ | ⟨_, ⟨⟩⟩)
    exact now
  · exact nofun

/-- An injected entry that starts: its context, and step 0 handed to the arbiter. -/
theorem startEntry_injected {c : Corner} {r : InjectRecord} {s : State} {steps : List ProfileStep} (id : Byte)
    (hp : s.preview.profile r.profile.toNat = some steps) {a : Arbiter}
    (ha : a = { s.arbiter.get c with preview := steps.head?.map fun st : ProfileStep => StepForm.mk st.demand st.mode }) :
    startEntry c (injectedEntry r s.dist.odometer id) s = { s with
      context := s.context.set c (some {
        profile := r.profile.toNat, steps := steps, index := 0, start := s.dist.odometer, cls := r.cls.toNat, id := id,
        dir := if r.direction = 0 then .compression else .rebound, origin := .injected, source := none }),
      arbiter := s.arbiter.set c a.settled,
      mapper := s.mapper.set c (a.handed s.regulation s.now (s.outputs c)).1,
      reg := s.reg.set c (a.handed s.regulation s.now (s.outputs c)).2 } := by
  subst ha
  exact (startEntry_eq (e := injectedEntry r s.dist.odometer id) hp).trans
    (resolve_setArbiter c _ { s with context := s.context.set c _ })

/-- Settles O36: the flag, the fields and the named corners are judged in that order, and the corners taken one by one. -/
theorem injectPreviewMakesEntry : Obligations.InjectPreviewMakesEntry := by
  rintro tag r s ok ⟨listening, part⟩ hok
  rw [← injectChecks_eq] at hok
  subst hok
  have taken : exec (.injectPreview tag r) s = .next (takeInjectPreview tag r s) :=
    exec_command_passed tag (.injectPreview r) s listening (by rw [part]; rfl) rfl
  have passed (all : (injectChecks s.preview r).all id = true) : firstBad (injectChecks s.preview r) = none :=
    (firstBad_eq_none _).2 (by simpa [List.all_eq_true] using all)
  have named : cornersOf r.corners = [Corner.fl, .fr, .rl, .rr].filter fun c => r.corners.getLsbD c.code.toNat := rfl
  have direction (all : (injectChecks s.preview r).all id = true) : r.direction.toNat ≤ 1 := by
    rw [injectChecks_eq] at all
    simp at all
    tauto
  have judged (on : s.preview.active = true) (all : (injectChecks s.preview r).all id = true) :
      takeInjectPreview tag r s = if (cornersOf r.corners).all fun c => !(s.sensing.get c).enabled then
          reply tag 0x42 .disabled [] s
        else reply tag 0x42 .ok (injectCorners r (s.dist.odometer + r.distance.setWidth 32) (cornersOf r.corners) s).2
          (injectCorners r (s.dist.odometer + r.distance.setWidth 32) (cornersOf r.corners) s).1 := by
    rw [takeInjectPreview, on, passed all]
    rfl
  rw [taken]
  refine ⟨fun off => ?_, fun i hi on fails before => ?_, fun on all disabled => ?_, ?_, ?_⟩
  · rw [takeInjectPreview, off]; rfl
  · rw [takeInjectPreview, on, firstBad_getD (by rw [injectChecks_eq]; exact hi) fails before]; rfl
  · rw [judged on all, if_pos]
    · rfl
    · rw [List.all_eq_true]
      intro c hc
      rw [disabled c (List.mem_filter.1 hc).2]
      rfl
  · rintro make offer all on good ⟨c, hc, enabled⟩ rfl rfl hall
    rw [judged on good, if_neg]
    · have offers := injectCorners_eq r s (direction good) (cornersOf r.corners) s [] fun _ => rfl
      rw [List.nil_append] at offers
      rw [hall.trans offers]
      rfl
    · rw [List.all_eq_true]
      intro none
      have := none c (List.mem_filter.2 ⟨by cases c <;> decide, hc⟩)
      rw [enabled] at this
      exact absurd this (by decide)
  · rintro c e steps on good only enabled empty free hp rfl
    have single : cornersOf r.corners = [c] := by
      rw [named]
      simp only [only]
      cases c <;> rfl
    have offered : takeInjectPreview tag r s = reply tag 0x42 .ok
        [c.code, (offerToQueue c (injectedEntry r s.dist.odometer s.preview.nextId) (drawId s)).2.1.code,
          (offerToQueue c (injectedEntry r s.dist.odometer s.preview.nextId) (drawId s)).2.2]
        (offerToQueue c (injectedEntry r s.dist.odometer s.preview.nextId) (drawId s)).1 := by
      have some : ¬ (cornersOf r.corners).all fun c => !(s.sensing.get c).enabled := by simp [single, enabled]
      rw [judged on good, if_neg some, single]
      simp only [injectCorners, injectCorner, enabled, if_true, List.append_nil, Dir.ofCode_getD (direction good)]
      rfl
    refine ⟨fun far => ?_, fun near => ?_⟩
    · have waits : offerToQueue c (injectedEntry r s.dist.odometer s.preview.nextId) (drawId s) = _ :=
        offerToQueue_waits (s := drawId s) s.preview.nextId empty far
      rw [offered, waits]
      rfl
    · have starts : offerToQueue c (injectedEntry r s.dist.odometer s.preview.nextId) (drawId s) = _ :=
        offerToQueue_starts (s := drawId s) s.preview.nextId empty free near
      have started : startEntry c (injectedEntry r (drawId s).dist.odometer s.preview.nextId) (drawId s) = _ :=
        startEntry_injected (s := drawId s) s.preview.nextId hp rfl
      rw [offered, starts, started]
      refine ⟨_, rfl, rfl, ?_, fun d hd => ?_, rfl⟩
      · rintro a rfl
        exact ⟨rfl, Prod.ext (PerCorner.get_set_self ..) (PerCorner.get_set_self ..)⟩
      · exact Prod.ext (PerCorner.get_set_ne _ _ hd) (PerCorner.get_set_ne _ _ hd)

end Sys2Proof.Machine

/-! PROOF. The insertion rule of the preview queues (3.4): order, spacing, merge, eviction, and an entry's offer. -/

namespace Sys2Proof.Machine

/-! ### Order of arrival (R2, R45) -/

/-- Two entries less than 2^31 mm ahead of a base: their signed distance is the difference of their distances ahead. -/
theorem signedDiff_ahead {base a b : Odo} (ha : (a - base).toNat < 2 ^ 31) (hb : (b - base).toNat < 2 ^ 31) :
    signedDiff a b = ((b - base).toNat : Int) - (a - base).toNat := by
  have apart : b - a = (b - base) - (a - base) := by rw [sub_sub_sub_cancel_right]
  rw [signedDiff, apart]
  generalize b - base = y at *
  generalize a - base = x at *
  rw [BitVec.toInt_sub, BitVec.toInt_eq_toNat_of_lt (by omega), BitVec.toInt_eq_toNat_of_lt (by omega), Int.bmod_eq_of_le]
  · omega
  · omega

/-- Whether one entry lies before another, by their distances ahead. -/
theorem earlier_iff {base a b : Odo} (ha : (a - base).toNat < 2 ^ 31) (hb : (b - base).toNat < 2 ^ 31) :
    earlier a b = decide ((a - base).toNat < (b - base).toNat) := by
  rw [earlier, signedDiff_ahead ha hb, Bool.eq_iff_iff]
  simp only [decide_eq_true_eq]
  omega

/-- Whether two entries lie within MergeDistance, by their distances ahead. -/
theorem within_iff {merge : Nat} {base a b : Odo} (ha : (a - base).toNat < 2 ^ 31) (hb : (b - base).toNat < 2 ^ 31) :
    within merge a b = decide ((b - base).toNat ≤ (a - base).toNat + merge ∧ (a - base).toNat ≤ (b - base).toNat + merge) := by
  rw [within, signedDiff_ahead ha hb, Bool.eq_iff_iff]
  simp only [decide_eq_true_eq]
  omega

/-- One entry lies more than MergeDistance ahead of another. -/
abbrev Apart (merge : Nat) (base : Odo) (a b : Entry) : Prop := ahead base a + merge < ahead base b

/-- An entry placed into a spaced queue away from all its entries leaves a spaced queue. -/
theorem placeByArrival_spaced {merge : Nat} {base : Odo} {e : Entry} {q : List Entry} (hq : Spaced merge base q)
    (he : ahead base e < 2 ^ 31) (far : ∀ x ∈ q, Apart merge base e x ∨ Apart merge base x e) :
    Spaced merge base (placeByArrival e q) := by
  refine ⟨fun x hx => ?_, ?_⟩
  · rcases List.mem_cons.1 ((placeByArrival_perm e q).mem_iff.1 hx) with rfl | hx
    · exact he
    · exact hq.1 x hx
  · obtain ⟨near, spaced⟩ := hq
    induction q with
    | nil => exact List.pairwise_singleton ..
    | cons x q ih =>
      obtain ⟨hx, near⟩ := List.forall_mem_cons.1 near
      obtain ⟨apart, far⟩ := List.forall_mem_cons.1 far
      obtain ⟨first, spaced⟩ := List.pairwise_cons.1 spaced
      have before : earlier e.arrival x.arrival = decide (ahead base e < ahead base x) := earlier_iff he hx
      by_cases lt : ahead base e < ahead base x
      · have placed : placeByArrival e (x :: q) = e :: x :: q := by
          simp [placeByArrival, before, lt]
        have apart : Apart merge base e x := apart.resolve_right fun h => by unfold Apart at h; omega
        rw [placed]
        refine List.pairwise_cons.2 ⟨List.forall_mem_cons.2 ⟨apart, fun y hy => ?_⟩, List.pairwise_cons.2 ⟨first, spaced⟩⟩
        have := first y hy
        unfold Apart at apart
        omega
      · have placed : placeByArrival e (x :: q) = x :: placeByArrival e q := by
          simp [placeByArrival, before, lt]
        have apart : Apart merge base x e := apart.resolve_left fun h => lt (by unfold Apart at h; omega)
        rw [placed]
        refine List.pairwise_cons.2 ⟨fun y hy => ?_, ih far near spaced⟩
        rcases List.mem_cons.1 ((placeByArrival_perm e q).mem_iff.1 hy) with rfl | hy
        · exact apart
        · exact first y hy

/-! ### The entry a merge leaves (R45) -/

/-- The supplier of a merge: of the highest class, and the earliest of that class. -/
theorem strongest_spec {base : Odo} (e : Entry) (es : List Entry)
    (sorted : (e :: es).Pairwise fun a b => ahead base a ≤ ahead base b) :
    strongest e es ∈ e :: es ∧ (∀ x ∈ e :: es, x.cls ≤ (strongest e es).cls) ∧
    ∀ x ∈ e :: es, x.cls = (strongest e es).cls → ahead base (strongest e es) ≤ ahead base x := by
  induction es generalizing e with
  | nil => simp [strongest]
  | cons x es ih =>
    obtain ⟨first, rest⟩ := List.pairwise_cons.1 sorted
    obtain ⟨second, later⟩ := List.pairwise_cons.1 rest
    obtain ⟨le, firsts⟩ := List.forall_mem_cons.1 first
    by_cases lower : e.cls < x.cls
    · have step : strongest e (x :: es) = strongest x es := by simp [strongest, lower]
      obtain ⟨mem, highest, earliest⟩ := ih x rest
      have top := highest x (List.mem_cons_self ..)
      rw [step]
      refine ⟨List.mem_cons_of_mem _ mem, List.forall_mem_cons.2 ⟨by omega, highest⟩,
        List.forall_mem_cons.2 ⟨fun same => by omega, earliest⟩⟩
    · have step : strongest e (x :: es) = strongest e es := by simp [strongest, lower]
      obtain ⟨mem, highest, earliest⟩ := ih e (List.pairwise_cons.2 ⟨firsts, later⟩)
      obtain ⟨top, highs⟩ := List.forall_mem_cons.1 highest
      obtain ⟨early, earlies⟩ := List.forall_mem_cons.1 earliest
      rw [step]
      refine ⟨?_, List.forall_mem_cons.2 ⟨top, List.forall_mem_cons.2 ⟨by omega, highs⟩⟩,
        List.forall_mem_cons.2 ⟨early, List.forall_mem_cons.2 ⟨fun same => ?_, earlies⟩⟩⟩
      · rcases List.mem_cons.1 mem with h | h
        · exact List.mem_cons.2 (.inl h)
        · exact List.mem_cons_of_mem _ (List.mem_cons_of_mem _ h)
      · have := early (by omega)
        omega

/-- The arrival of a merge: one of the arrivals, and the earliest. -/
theorem earliestArrival_spec {base : Odo} (a : Odo) (es : List Entry) (ha : (a - base).toNat < 2 ^ 31)
    (hes : ∀ x ∈ es, ahead base x < 2 ^ 31) :
    (earliestArrival a es = a ∨ ∃ x ∈ es, x.arrival = earliestArrival a es) ∧
    (earliestArrival a es - base).toNat ≤ (a - base).toNat ∧
    ∀ x ∈ es, (earliestArrival a es - base).toNat ≤ ahead base x := by
  induction es generalizing a with
  | nil => simp [earliestArrival]
  | cons x es ih =>
    obtain ⟨hx, hes⟩ := List.forall_mem_cons.1 hes
    by_cases lt : ahead base x < (a - base).toNat
    · have before : earlier x.arrival a = true := (earlier_iff hx ha).trans (decide_eq_true lt)
      have step : earliestArrival a (x :: es) = earliestArrival x.arrival es := by simp [earliestArrival, before]
      obtain ⟨one, least, rest⟩ := ih x.arrival hx hes
      rw [step]
      refine ⟨.inr ?_, by unfold ahead at lt; omega, List.forall_mem_cons.2 ⟨least, rest⟩⟩
      rcases one with same | ⟨y, hy, same⟩
      · exact ⟨x, List.mem_cons_self .., same.symm⟩
      · exact ⟨y, List.mem_cons_of_mem _ hy, same⟩
    · have before : earlier x.arrival a = false := (earlier_iff hx ha).trans (decide_eq_false lt)
      have step : earliestArrival a (x :: es) = earliestArrival a es := by simp [earliestArrival, before]
      obtain ⟨one, least, rest⟩ := ih a ha hes
      rw [step]
      refine ⟨one.imp_right fun ⟨y, hy, same⟩ => ⟨y, List.mem_cons_of_mem _ hy, same⟩, least,
        List.forall_mem_cons.2 ⟨by omega, rest⟩⟩

/-- The lowest class of a queue is one of its classes and below none of them. -/
theorem lowestClass_spec (e : Entry) (es : List Entry) :
    (∃ x ∈ e :: es, x.cls = lowestClass e es) ∧ ∀ x ∈ e :: es, lowestClass e es ≤ x.cls := by
  have lowest (m : Nat) (es : List Entry) : es.foldl (fun m x => min m x.cls) m ≤ m ∧
      (∀ x ∈ es, es.foldl (fun m x => min m x.cls) m ≤ x.cls) ∧
      (es.foldl (fun m x => min m x.cls) m = m ∨ ∃ x ∈ es, x.cls = es.foldl (fun m x => min m x.cls) m) := by
    induction es generalizing m with
    | nil => simp
    | cons x es ih =>
      obtain ⟨le, all, one⟩ := ih (min m x.cls)
      rw [List.foldl_cons]
      refine ⟨by omega, List.forall_mem_cons.2 ⟨by omega, all⟩, ?_⟩
      rcases one with same | ⟨y, hy, same⟩
      · rcases le_total m x.cls with h | h
        · rw [Nat.min_eq_left h] at same ⊢; exact .inl same
        · rw [Nat.min_eq_right h] at same ⊢; exact .inr ⟨x, List.mem_cons_self .., same.symm⟩
      · exact .inr ⟨y, List.mem_cons_of_mem _ hy, same⟩
  obtain ⟨le, all, one⟩ := lowest e.cls es
  refine ⟨?_, List.forall_mem_cons.2 ⟨le, all⟩⟩
  rcases one with same | ⟨x, hx, same⟩
  · exact ⟨e, List.mem_cons_self .., same.symm⟩
  · exact ⟨x, List.mem_cons_of_mem _ hx, same⟩

/-! ### The insertion rule, case by case (R45) -/

section Rule
variable {merge : Nat} {new : Entry} {q : List Entry}

/-- Entries near the new one and it become one. -/
theorem insertEntry_merged {first : Entry} {others : List Entry}
    (near : q.filter (fun x => within merge new.arrival x.arrival) = first :: others) : insertEntry merge new q =
      ⟨placeByArrival (mergedEntry new first others) (q.filter fun x => !within merge new.arrival x.arrival), .merged,
        mergedEntry new first others, none⟩ := by
  unfold insertEntry
  rw [near]

variable (apart : q.filter (fun x => within merge new.arrival x.arrival) = [])
include apart

/-- With no entry near it the new one is inserted while there is room. -/
theorem insertEntry_inserted (room : q.length < 8) :
    insertEntry merge new q = ⟨placeByArrival new q, .inserted, new, none⟩ := by
  unfold insertEntry
  rw [apart]
  exact if_pos room

variable (full : 8 ≤ q.length)
include full

/-- A full queue without a lower class drops the new entry. -/
theorem insertEntry_dropped (high : ∀ x ∈ q, new.cls ≤ x.cls) :
    insertEntry merge new q = ⟨q, .dropped, new, some new⟩ := by
  cases q with
  | nil => simp at full
  | cons e es =>
    obtain ⟨⟨x, hx, same⟩, -⟩ := lowestClass_spec e es
    have := high x hx
    rw [insertEntry, apart]
    simp only [Nat.not_lt.2 full, if_false]
    exact if_neg (by omega)

/-- A full queue with a lower class loses the last entry of its lowest class. -/
theorem insertEntry_evicted (low : ∃ x ∈ q, x.cls < new.cls) : ∃ victim before after, q = before ++ victim :: after ∧
    (∀ x ∈ q, victim.cls ≤ x.cls) ∧ (∀ x ∈ after, victim.cls < x.cls) ∧
    insertEntry merge new q = ⟨placeByArrival new (q.erase victim), .evicted, new, some victim⟩ := by
  cases q with
  | nil => simp at full
  | cons e es =>
    obtain ⟨⟨z, hz, lowest⟩, least⟩ := lowestClass_spec e es
    obtain ⟨y, hy, below⟩ := low
    have lower : lowestClass e es < new.cls := lt_of_le_of_lt (least y hy) below
    have some : (e :: es).filter (fun x => decide (x.cls = lowestClass e es)) ≠ [] :=
      List.ne_nil_of_mem (List.mem_filter.2 ⟨hz, decide_eq_true lowest⟩)
    obtain ⟨older, victim, last⟩ := List.eq_nil_or_concat _ |>.resolve_left some
    rw [List.concat_eq_append] at last
    obtain ⟨l1, l2, split, -, second⟩ := List.filter_eq_append_iff.1 last
    obtain ⟨l3, after, split', -, chosen, none⟩ := List.filter_eq_cons_iff.1 second
    have cls : victim.cls = lowestClass e es := of_decide_eq_true chosen
    refine ⟨victim, l1 ++ l3, after, by rw [split, split', List.append_assoc], fun x hx => cls ▸ least x hx,
      fun x hx => ?_, ?_⟩
    · have member : x ∈ e :: es := by rw [split, split']; simp [hx]
      have other : ¬ x.cls = lowestClass e es := fun h =>
        List.filter_eq_nil_iff.1 none x hx (decide_eq_true h)
      have := least x member
      omega
    · rw [insertEntry, apart]
      simp only [Nat.not_lt.2 full, if_false, lower, if_true, last, List.getLast?_append, List.getLast?_singleton]
      rfl

end Rule

/-! ### Spacing kept (R45) -/

section Spacing
variable {merge : Nat} {base : Odo} {q : List Entry} (hq : Spaced merge base q)
include hq

/-- Two entries of a spaced queue lie apart, one way or the other. -/
theorem apart_of_spaced {a b : Entry} (ha : a ∈ q) (hb : b ∈ q) (ne : a ≠ b) :
    Apart merge base a b ∨ Apart merge base b a := by
  have both : q.Pairwise fun a b => Apart merge base a b ∨ Apart merge base b a := hq.2.imp .inl
  have : Std.Symm fun a b => Apart merge base a b ∨ Apart merge base b a := ⟨fun _ _ h => h.symm⟩
  exact both.forall ha hb ne

theorem spaced_sublist {p : List Entry} (h : p.Sublist q) : Spaced merge base p :=
  ⟨fun e he => hq.1 e (h.subset he), hq.2.sublist h⟩

/-- A spaced queue holds no entry twice. -/
theorem nodup_of_spaced : q.Nodup := hq.2.imp fun {a b} h same => by subst same; omega

/-- A spaced queue is in order of arrival. -/
theorem sorted_of_spaced : q.Pairwise fun a b => ahead base a ≤ ahead base b := hq.2.imp fun h => by omega

variable {new : Entry} (hn : ahead base new < 2 ^ 31)
include hn

/-- Nearness by the distances ahead. -/
theorem within_eq {x : Entry} (hx : x ∈ q) : within merge new.arrival x.arrival =
    decide (ahead base x ≤ ahead base new + merge ∧ ahead base new ≤ ahead base x + merge) :=
  within_iff hn (hq.1 x hx)

/-- An entry not near the new one lies apart from it. -/
theorem apart_of_not_within {x : Entry} (hx : x ∈ q) (h : within merge new.arrival x.arrival = false) :
    Apart merge base new x ∨ Apart merge base x new := by
  rw [within_eq hq hn hx, decide_eq_false_iff_not] at h
  unfold Apart
  omega

/-- What a merge leaves: a spaced queue, and the highest class at the earliest arrival. -/
theorem merge_spec {first : Entry} {others : List Entry}
    (near : q.filter (fun x => within merge new.arrival x.arrival) = first :: others) :
    Spaced merge base (insertEntry merge new q).queue ∧
    (∀ e ∈ new :: first :: others, ahead base (mergedEntry new first others) ≤ ahead base e ∧
      e.cls ≤ (mergedEntry new first others).cls) ∧
    (∃ e ∈ new :: first :: others, e.arrival = (mergedEntry new first others).arrival) ∧
    (∃ e ∈ new :: first :: others, mergedEntry new first others =
        { e with arrival := (mergedEntry new first others).arrival } ∧
      ((∃ x ∈ first :: others, x.cls = (mergedEntry new first others).cls) → e ∈ first :: others ∧
        ∀ x ∈ first :: others, x.cls = (mergedEntry new first others).cls → ahead base e ≤ ahead base x)) := by
  have nears (x : Entry) (hx : x ∈ first :: others) : x ∈ q ∧ within merge new.arrival x.arrival = true := by
    rw [← near] at hx; exact List.mem_filter.1 hx
  have sorted : (first :: others).Pairwise fun a b => ahead base a ≤ ahead base b := by
    rw [← near]; exact (sorted_of_spaced hq).sublist List.filter_sublist
  obtain ⟨supplier, highest, earliest⟩ := strongest_spec first others sorted
  obtain ⟨one, least, rest⟩ := earliestArrival_spec new.arrival (first :: others) hn fun x hx => hq.1 x (nears x hx).1
  have arrival : (mergedEntry new first others).arrival = earliestArrival new.arrival (first :: others) := rfl
  have cls : (mergedEntry new first others).cls =
      (if (strongest first others).cls < new.cls then new else strongest first others).cls := rfl
  have place : ∃ e ∈ new :: first :: others, e.arrival = (mergedEntry new first others).arrival := by
    rcases one with same | ⟨x, hx, same⟩
    · exact ⟨new, List.mem_cons_self .., same.symm⟩
    · exact ⟨x, List.mem_cons_of_mem _ hx, same⟩
  have top : new.cls ≤ (mergedEntry new first others).cls ∧
      (strongest first others).cls ≤ (mergedEntry new first others).cls := by
    rw [cls]; split <;> omega
  refine ⟨?_, List.forall_mem_cons.2 ⟨⟨least, top.1⟩, fun e he => ⟨rest e he, (highest e he).trans top.2⟩⟩, place, ?_⟩
  · obtain ⟨e, he, same⟩ := place
    have where' : ahead base (mergedEntry new first others) = ahead base e := by rw [ahead, ← same]; rfl
    rw [insertEntry_merged near]
    refine placeByArrival_spaced (spaced_sublist hq List.filter_sublist) ?_ fun x hx => ?_
    · rw [where']
      rcases List.mem_cons.1 he with rfl | he
      · exact hn
      · exact hq.1 e (nears e he).1
    · obtain ⟨member, far⟩ := List.mem_filter.1 hx
      have far : within merge new.arrival x.arrival = false := by simpa using far
      have apart : Apart merge base e x ∨ Apart merge base x e := by
        rcases List.mem_cons.1 he with rfl | he
        · exact apart_of_not_within hq hn member far
        · refine apart_of_spaced hq (nears e he).1 member fun h => ?_
          rw [← h, (nears e he).2] at far
          exact absurd far (by decide)
      unfold Apart at apart ⊢
      rwa [where']
  · by_cases lower : (strongest first others).cls < new.cls
    · refine ⟨new, List.mem_cons_self .., by simp [mergedEntry, lower], fun ⟨x, hx, same⟩ => ?_⟩
      have := highest x hx
      rw [cls, if_pos lower] at same
      omega
    · rw [if_neg lower] at cls
      refine ⟨strongest first others, List.mem_cons_of_mem _ supplier, by simp [mergedEntry, lower],
        fun _ => ⟨supplier, fun x hx same => earliest x hx (same.trans cls)⟩⟩

/-- Whatever the rule does, the queue stays spaced. -/
theorem insertEntry_spaced : Spaced merge base (insertEntry merge new q).queue := by
  cases near : q.filter (fun x => within merge new.arrival x.arrival) with
  | cons first others => exact (merge_spec hq hn near).1
  | nil =>
    have apart (x : Entry) (hx : x ∈ q) : Apart merge base new x ∨ Apart merge base x new :=
      apart_of_not_within hq hn hx (Bool.eq_false_iff.2 (List.filter_eq_nil_iff.1 near x hx))
    by_cases room : q.length < 8
    · rw [insertEntry_inserted near room]
      exact placeByArrival_spaced hq hn apart
    · have full : 8 ≤ q.length := Nat.not_lt.1 room
      by_cases low : ∃ x ∈ q, x.cls < new.cls
      · obtain ⟨victim, before, after, -, -, -, evicted⟩ := insertEntry_evicted near full low
        rw [evicted]
        exact placeByArrival_spaced (spaced_sublist hq List.erase_sublist) hn fun x hx => apart x (List.mem_of_mem_erase hx)
      · rw [insertEntry_dropped near full fun x hx => Nat.not_lt.1 fun h => low ⟨x, hx, h⟩]
        exact hq

end Spacing

/-! ### An entry offered (R46, R48, R55) -/

/-- A dropped entry holds its own feature. -/
theorem insertEntry_holder {merge : Nat} {new : Entry} {q : List Entry} (h : (insertEntry merge new q).outcome = .dropped) :
    (insertEntry merge new q).holder = new := by
  cases near : q.filter (fun x => within merge new.arrival x.arrival) with
  | cons first others => rw [insertEntry_merged near] at h; exact absurd h (by simp)
  | nil =>
    by_cases room : q.length < 8
    · rw [insertEntry_inserted near room]
    · have full : 8 ≤ q.length := Nat.not_lt.1 room
      by_cases low : ∃ x ∈ q, x.cls < new.cls
      · obtain ⟨victim, before, after, -, -, -, evicted⟩ := insertEntry_evicted near full low
        rw [evicted]
      · rw [insertEntry_dropped near full fun x hx => Nat.not_lt.1 fun h => low ⟨x, hx, h⟩]

/-- Settles O38: near entries merge; else the room and the classes decide; the offer takes the rule, its record and a check. -/
theorem insertionKeepsQueue : Obligations.InsertionKeepsQueue := by
  refine ⟨?_, ?_⟩
  · rintro merge base new q near far i hq len hn small rfl hnear hfar
    have nears : near = q.filter fun x => within merge new.arrival x.arrival :=
      hnear.trans (List.filter_congr fun x hx => (within_eq hq hn hx).symm)
    have fars : far = q.filter fun x => !within merge new.arrival x.arrival :=
      hfar.trans (List.filter_congr fun x hx => by rw [within_eq hq hn hx])
    clear hnear hfar
    subst nears fars
    refine ⟨insertEntry_spaced hq hn, insertEntry_length merge new q len, fun some => ?_, fun none room => ?_,
      fun none full high => ?_, fun none full low => ?_⟩
    · obtain ⟨first, others, near⟩ := List.exists_cons_of_ne_nil some
      obtain ⟨-, best, place, supplier⟩ := merge_spec hq hn near
      rw [near, insertEntry_merged near]
      exact ⟨rfl, rfl, placeByArrival_perm .., best, place, supplier⟩
    · rw [insertEntry_inserted none room]
      exact ⟨rfl, rfl, rfl, placeByArrival_perm ..⟩
    · rw [insertEntry_dropped none full.ge high]
      exact ⟨rfl, rfl, rfl⟩
    · obtain ⟨victim, before, after, split, least, later, evicted⟩ := insertEntry_evicted none full.ge low
      have once := nodup_of_spaced hq
      have erased : q.erase victim = before ++ after := by
        rw [split] at once ⊢
        rw [List.erase_append_right _ fun h => ?_, List.erase_cons_head]
        exact (List.disjoint_of_nodup_append once) h (List.mem_cons_self ..)
      rw [evicted]
      exact ⟨victim, before, after, split, least, later, rfl, rfl, rfl, erased ▸ placeByArrival_perm ..⟩
  · rintro c e s u i hi hu
    have recorded : recordLost c i.lost (s.setQueue c i.queue) = u := by
      rw [hu]
      cases i.lost <;> rfl
    have offered : offerToQueue c e s = match i.outcome with
        | .dropped => (u, .dropped, i.holder.id)
        | o => (maturityCheck c u, if i.holder ∈ maturing c u then .maturedAtOnce else o, i.holder.id) := by
      rw [← recorded, hi]; rfl
    have heads : maturing c u = i.queue.takeWhile fun x =>
        decide (signedDiff s.dist.odometer x.arrival ≤ (s.dist.speed * s.dist.leadTime / 1000 : Nat)) := by
      rw [maturing, hu, PerCorner.get_set_self]; rfl
    refine ⟨fun dropped => ?_, fun kept => ?_⟩
    · have holder : i.holder = e := by rw [hi]; exact insertEntry_holder (by rw [← hi]; exact dropped)
      rw [offered, dropped, holder]
    · rw [offered, ← heads]
      cases outcome : i.outcome with
      | dropped => exact absurd outcome kept
      | _ => rfl

end Sys2Proof.Machine

/-! PROOF. How a CoilTest is judged and answered, and the expiries of the regulation period that find no fault. -/

namespace Sys2Proof.Machine

/-! ### A CoilTest judged (R127) -/

/-- A regulator whose pending target, if any, has become its target. -/
theorem Regulator.takeSlot_eq (r : Regulator) : r.takeSlot = { r with
    target := (match r.slot with
      | some p => some p.target
      | none => r.target),
    slot := none } := by
  obtain ⟨_, _, _, slot⟩ := r
  cases slot <;> rfl

/-- A test excitation started in Off or Faulted. -/
theorem startTest_eq {r : Regulator} (h : r.mode = .off ∨ r.mode = .faulted) : startTest r = { r with
    mode := .test 0 0 (if r.mode = .faulted then .faulted else .off), duty := 160,
    target := (match r.slot with
      | some p => some p.target
      | none => r.target),
    slot := none, probeTimer := none, probeDue := false, openCount := 0 } := by
  rw [startTest, r.takeSlot_eq]
  rcases h with h | h <;> rw [h] <;> rfl

/-- Settles O39: each answer is one branch of the judgement, in its order. -/
theorem coilTestJudged : Obligations.CoilTestJudged := by
  rintro tag c s r answer reserved listening part rfl rfl rfl
  have passed : stateTest (.coilTest c.code) s.control.part = none := by rcases part with h | h | h <;> rw [h] <;> rfl
  have taken : exec (.coilTest tag c.code) s = .next (takeCoilTestAt tag c s) := by
    rw [← show takeCoilTest tag c.code s = takeCoilTestAt tag c s by rw [takeCoilTest, Corner.ofCode_code]]
    exact exec_command_passed tag (.coilTest c.code) s listening passed rfl
  rw [taken]
  refine ⟨fun busy => ?_, fun free latched => ?_, fun free latched excited => ?_, fun free latched notConfiguring => ?_⟩
  · rw [takeCoilTestAt, if_pos (Option.isSome_iff_ne_none.2 busy)]; rfl
  · rw [takeCoilTestAt, if_neg (by simp [free]), if_pos latched]; rfl
  · have test : takeCoilTestAt tag c s = takeTestExcitation tag c s := by
      rw [takeCoilTestAt, if_neg (by simp [free]), if_neg (by simp [latched]), if_pos (excited.imp_left And.left)]
    rw [test, takeTestExcitation]
    refine ⟨fun hold => by rw [if_pos hold]; rfl, fun hold => ?_⟩
    rw [if_neg hold, startTest_eq (excited.imp_left And.right)]; rfl
  · have unlatched : ¬ (s.reg.get c).latched = true := by simp [latched]
    have idle : ¬ (s.link.inflight.get c).isSome = true := by simp [free]
    have judged (sound : (s.reg.get c).mode ≠ .faulted) : takeCoilTestAt tag c s =
        if (s.reg.get c).mode = .off then reply tag 0x44 .disabled [] s
        else if (s.reg.get c).mode = .hold then reply tag 0x44 .cancelled [] s
        else if (s.reg.get c).targetNow < 150 then reply tag 0x44 .lowCurrent [] s
        else reserveTest c tag (s.setReg c { s.reg.get c with testWaiting := true }) := by
      rw [takeCoilTestAt, if_neg idle, if_neg unlatched, if_neg (by simp [notConfiguring, sound])]
    refine ⟨fun off => ?_, fun hold => ?_, fun I target mode => ?_⟩
    · rw [judged (by simp [off]), if_pos off]; rfl
    · rw [judged (by simp [hold]), if_neg (by simp [hold]), if_pos hold]; rfl
    · have regulates : (s.reg.get c).mode ≠ .faulted ∧ (s.reg.get c).mode ≠ .off ∧ (s.reg.get c).mode ≠ .hold := by
        rcases mode with h | ⟨_, h⟩ | ⟨_, h⟩ | ⟨_, _, h⟩ <;> simp [h]
      obtain ⟨sound, on, notHeld⟩ := regulates
      rw [judged sound, if_neg on, if_neg notHeld, Regulator.targetNow_of_target target]
      exact ⟨fun low => by rw [if_pos low]; rfl, fun high => by rw [if_neg (Nat.not_lt.2 high)]; rfl⟩

/-! ### The duty arithmetic (7.3) -/

/-- The computed duty with its clamp written out. -/
theorem Regulator.dutyFor_eq (r : Regulator) (target vbat : Nat) : r.dutyFor target vbat =
    (max 0 (min 1023 (((min 1023 ((2 * (target * r.rEst * 1024) + 1000 * min 18000 (max 6000 vbat)) /
      (2 * (1000 * min 18000 (max 6000 vbat)))) : Nat) : Int) + r.trim))).toNat := by
  rw [Regulator.dutyFor, clamp_eq _ _ _ (by decide)]; rfl

/-- The computed duty, or 0 for a target of 0, with its clamp written out. -/
theorem Regulator.dutyOrZero_eq (r : Regulator) (vbat : Nat) : r.dutyOrZero vbat =
    if r.targetNow = 0 then 0 else (max 0 (min 1023 (((min 1023 ((2 * (r.targetNow * r.rEst * 1024) +
      1000 * min 18000 (max 6000 vbat)) / (2 * (1000 * min 18000 (max 6000 vbat)))) : Nat) : Int) + r.trim))).toNat := by
  rw [Regulator.dutyOrZero, r.dutyFor_eq]

/-- Rounding the trim's step half away from zero, by the sign of the error. -/
theorem roundHalfAway_mul (e : Int) (ki : Nat) : roundHalfAway (e * ki) 256 =
    if 0 ≤ e then (2 * (e * ki) + 256) / 512 else -((2 * (-e * ki) + 256) / 512) := by
  by_cases h : 0 ≤ e
  · have product : 0 ≤ e * ki := mul_nonneg h (Int.natCast_nonneg ki)
    rw [roundHalfAway, if_pos product, if_pos h, roundHalfUp]
    omega
  · rw [if_neg h, Int.neg_mul, roundHalfAway, roundHalfUp]
    have product : e * ki ≤ 0 := mul_nonpos_of_nonpos_of_nonneg (by omega) (Int.natCast_nonneg ki)
    split <;> omega

/-- The trim after an expiry in Regulating with its step and its clamp written out. -/
theorem Regulator.trimAfter_eq (r : Regulator) (target im ki : Nat) (e : Int) (he : e = (target : Int) - im) :
    r.trimAfter target im ki = if (r.duty = 1023 ∧ 0 < e) ∨ (r.duty = 0 ∧ e < 0) then r.trim
      else max (-256) (min 255 (r.trim +
        if 0 ≤ e then (2 * (e * ki) + 256) / 512 else -((2 * (-e * ki) + 256) / 512))) := by
  rw [Regulator.trimAfter, ← he, roundHalfAway_mul, clamp_eq _ _ _ (by decide)]

/-- A regulator with a trim and a duty set. -/
def Regulator.driven (r : Regulator) (trim : Int) (duty : Nat) : Regulator := { r with trim := trim, duty := duty }

/-- The regulation step: a target of 0 makes the duty 0 and keeps the trim. -/
theorem regulate_eq {r : Regulator} {I : Nat} (target : r.target = some I) (ki im vbat : Nat) (trim : Int)
    (trimmed : (if I = 0 then r.trim else r.trimAfter I im ki) = trim) :
    regulate ki im vbat r = r.driven trim (if I = 0 then 0 else (r.driven trim r.duty).dutyFor I vbat) := by
  have now : r.targetNow = I := Regulator.targetNow_of_target target
  rw [regulate, now]
  by_cases zero : I = 0
  · rw [if_pos zero] at trimmed ⊢
    rw [if_pos zero, ← trimmed]; rfl
  · rw [if_neg zero] at trimmed ⊢
    rw [if_neg zero, ← trimmed]
    exact congrArg (fun i => r.driven (r.trimAfter I im ki) ((r.driven (r.trimAfter I im ki) r.duty).dutyFor i vbat)) now

/-- Whether a probe starts, at a target that is present. -/
theorem Regulator.probeStarts_of_target {r : Regulator} {I : Nat} (target : r.target = some I) :
    r.probeStarts = ((r.probeDue || r.testWaiting) && decide (150 ≤ I) && r.slot.isNone) := by
  rw [Regulator.probeStarts, Regulator.targetNow_of_target target]

/-! ### An expiry that finds no fault -/

/-- The part at a period's expiry time: the clock moved on, and the free value for an absent VBAT drawn. -/
def State.atExpiry (s : State) (T : Nat) : State := { s with
  now := max s.now T, choices := if s.supply.vbat.isNone then s.choices + 1 else s.choices }

/-- A regulator whose period has ended, with its Im and open-count stored and the next period begun. -/
def Regulator.atExpiry (r : Regulator) (T im opens : Nat) : Regulator := { r with
  period := some (T + 500), lastIm := im, openCount := opens }

/-- An expiry that finds no fault goes on by mode, in the part at the expiry time. -/
theorem exec_periodExpiry_passed {c : Corner} {im : Count} {s : State} {r : Regulator} {T opens : Nat}
    (hr : r = s.reg.get c) (running : r.period = some T) (short : r.mode ≠ .faulted → im.toNat ≤ 2500)
    (counted : r.openAfter im.toNat = opens) (few : opens < 3) : exec (.periodExpiry c im) s =
      .next (expiryByMode c im.toNat s.vbatRead ((s.atExpiry T).setReg c (r.atExpiry T im.toNat opens))) := by
  subst hr counted
  refine congrArg Host.Outcome.next ((periodExpiry_running c im s T running).trans ?_)
  rw [judgeExpiry_passed _ _ _ _ (by simpa using short) (by simpa [Regulator.openAfter] using few)]
  simp only [PerCorner.get_set_self, PerCorner.set_set]
  rfl

/-- The open-count after an expiry in a mode in which the open test is made. -/
theorem Regulator.openAfter_judged {r : Regulator} (h : r.mode.openJudged = true) (im : Nat) :
    r.openAfter im = if 200 ≤ r.duty ∧ im < 20 then r.openCount + 1 else 0 := by
  simp [Regulator.openAfter, h]

/-- The open-count after an expiry in any other mode. -/
theorem Regulator.openAfter_unjudged {r : Regulator} (h : r.mode.openJudged = false) (im : Nat) :
    r.openAfter im = 0 := by
  simp [Regulator.openAfter, h]

@[simp] theorem State.setReg_setReg (s : State) (c : Corner) (r r' : Regulator) :
    (s.setReg c r).setReg c r' = s.setReg c r' := by
  simp [State.setReg]

/-- The mode a regulator's expiry goes on in is that of its corner. -/
theorem expiryByMode_setReg (c : Corner) (im vbat : Nat) (s : State) (r : Regulator) (m : Mode) :
    r.mode = m → expiryByMode c im vbat (s.setReg c r) = match m with
      | .off => s.setReg c r
      | .hold => s.setReg c r
      | .faulted => s.setReg c r
      | .regulating => regulatingExpiry c im vbat (s.setReg c r)
      | .kick n => s.setReg c (kickExpiry s.regulation n im vbat r)
      | .quench n => s.setReg c (quenchExpiry s.regulation n im vbat r)
      | .probe n sum => probeExpiry c n sum im vbat (s.setReg c r)
      | .test n sum ret => testExpiry c n sum ret im vbat (s.setReg c r) := by
  intro h
  have own : ((s.setReg c r).reg.get c) = r := PerCorner.get_set_self ..
  simp only [expiryByMode, own, h]
  cases m <;> simp only [State.setReg_setReg] <;> rfl

/-! ### An expiry in Regulating (R108) -/

/-- A probe that is due or asked for starts when it may, and nothing else happens, unless a CoilTest waits in vain. -/
theorem regulatingExpiry_eq (c : Corner) (im vbat : Nat) (s : State) (r r1 : Regulator)
    (step : regulate s.regulation.ki im vbat r = r1) (enough : r1.testWaiting = true → 150 ≤ r1.targetNow) :
    regulatingExpiry c im vbat (s.setReg c r) = s.setReg c (if r1.probeStarts then r1.startProbe else r1) := by
  have own (x : Regulator) : ((s.setReg c x).reg.get c) = x := PerCorner.get_set_self ..
  have stepped : regulate (s.setReg c r).regulation.ki im vbat ((s.setReg c r).reg.get c) = r1 := by rw [own]; exact step
  have content : ¬ (r1.testWaiting = true ∧ r1.targetNow < 150) := fun h => by have := enough h.1; omega
  rw [regulatingExpiry, stepped]
  simp only [State.setReg_setReg, if_neg content, own]
  split <;> rfl

/-- Settles O48: the regulation step, and then the probe that may start. -/
theorem regulatingExpiry_of_noFault : Obligations.RegulatingExpiry := by
  rintro c im s r T I V Dff opens e inc trim starts hr mode running target rfl hopens few short he rfl htrim rfl hstarts
    enough
  have counted : r.openAfter im.toNat = opens := by rw [Regulator.openAfter_judged (by rw [mode]; rfl), hopens]
  have trimmed : (if I = 0 then r.trim else r.trimAfter I im.toNat s.regulation.ki) = trim := by
    rw [htrim, r.trimAfter_eq I _ _ e he]
    by_cases zero : I = 0
    · rw [if_pos zero, if_pos (.inl zero)]
    · simp only [zero, if_false, false_or]
  have step := regulate_eq (r := r.atExpiry T im.toNat opens) target s.regulation.ki im.toNat s.vbatRead trim trimmed
  have startsNow (d : Nat) : ((r.atExpiry T im.toNat opens).driven trim d).probeStarts = starts := by
    rw [hstarts]
    exact Regulator.probeStarts_of_target (I := I) target
  rw [exec_periodExpiry_passed hr running (fun _ => short) counted few,
    expiryByMode_setReg c _ _ _ _ .regulating (by exact mode)]
  refine congrArg Host.Outcome.next ((regulatingExpiry_eq c _ _ (s.atExpiry T) _ _ step ?_).trans ?_)
  · intro waiting
    exact (Regulator.targetNow_of_target (r := r) target).symm ▸ enough waiting
  · refine congrArg ((s.atExpiry T).setReg c) ?_
    rw [startsNow, Regulator.dutyFor_eq]
    obtain ⟨m⟩ := r
    obtain rfl : m = .regulating := mode
    cases starts <;> rfl

/-! ### A CoilTest in flight answered (7.8) -/

/-- The link after the CoilTest of a corner, if one is in flight, has been answered. -/
def LinkState.testAnswered (l : LinkState) (c : Corner) (status : Status) (sum : Byte) (payload : List Byte) : LinkState :=
  match l.inflight.get c with
  | none => l
  | some tag => { l with
      replies := l.replies ++ [⟨0xC4, tag, status, sum, payload⟩],
      inflight := l.inflight.set c none, reservations := l.reservations - 1 }

/-- What answering a CoilTest leaves. -/
theorem answerTest_eq (c : Corner) (status : Status) (payload : List Byte) (s : State) : answerTest c status payload s =
    { s with
      reg := s.reg.set c ((s.reg.get c).answered (s.link.inflight.get c)),
      link := s.link.testAnswered c status (summary s) payload } := by
  rcases answerTest_cases c status payload s with ⟨free, same⟩ | ⟨tag, held, answered⟩
  · rw [same, LinkState.testAnswered, free, Regulator.answered_none, PerCorner.set_get]
  · rw [answered, LinkState.testAnswered, held]
    simp [Regulator.answered]

/-- The regulation step changes the trim and the duty only. -/
theorem regulate_frame (ki im vbat : Nat) (r : Regulator) : ∃ trim duty, regulate ki im vbat r = r.driven trim duty := by
  rw [regulate]
  split
  · exact ⟨r.trim, 0, rfl⟩
  · exact ⟨_, _, rfl⟩

/-- A CoilTest that waits in vain is answered, and no probe starts. -/
theorem regulatingExpiry_waiting (c : Corner) (im vbat : Nat) (s : State) (r r1 : Regulator)
    (step : regulate s.regulation.ki im vbat r = r1) (waiting : r1.testWaiting = true) (low : r1.targetNow < 150) :
    regulatingExpiry c im vbat (s.setReg c r) =
      answerTest c .lowCurrent [] (s.setReg c { r1 with testWaiting := false }) := by
  have own (x : Regulator) : ((s.setReg c x).reg.get c) = x := PerCorner.get_set_self ..
  have stepped : regulate (s.setReg c r).regulation.ki im vbat ((s.setReg c r).reg.get c) = r1 := by rw [own]; exact step
  have noProbe : ((answerTest c .lowCurrent [] (s.setReg c { r1 with testWaiting := false })).reg.get c).probeStarts =
      false := by
    rw [answerTest_eq]
    simp only [PerCorner.get_set_self, own]
    have small : decide (150 ≤ r1.targetNow) = false := decide_eq_false (Nat.not_le.2 low)
    show (_ && decide (150 ≤ r1.targetNow) && _) = false
    rw [small, Bool.and_false, Bool.false_and]
  rw [regulatingExpiry, stepped]
  simp only [State.setReg_setReg, if_pos (And.intro waiting low), noProbe]
  rfl

/-- Settles O49: the waiting CoilTest is answered, and the target is too low for a probe. -/
theorem waitingTestLowCurrent : Obligations.WaitingTestLowCurrent := by
  rintro c im s r T I tag hr mode running target low waiting held short few
  obtain ⟨trim, duty, step⟩ := regulate_frame s.regulation.ki im.toNat s.vbatRead
    (r.atExpiry T im.toNat (r.openAfter im.toNat))
  have answered := regulatingExpiry_waiting c im.toNat s.vbatRead (s.atExpiry T) _ _ step waiting
    ((Regulator.targetNow_of_target (by exact target)).trans_lt low)
  rw [answerTest_eq] at answered
  rw [exec_periodExpiry_passed hr running (fun _ => short) rfl few,
    expiryByMode_setReg c _ _ _ _ .regulating (by exact mode)]
  refine ⟨_, congrArg Host.Outcome.next answered, ?_, ?_, ?_, ?_, ?_, rfl⟩
  · show s.link.testAnswered c .lowCurrent (summary s) [] = _
    rw [LinkState.testAnswered, held]
  · simp [Regulator.answered]
  · simp [Regulator.answered, Regulator.driven, Regulator.atExpiry, mode]
  · simp [Regulator.answered, Regulator.driven, Regulator.atExpiry, target]
  · intro d hd
    simp [PerCorner.get_set, hd, State.atExpiry]

/-! ### An expiry in the other modes (R103, R114, R115, R124, R138) -/

/-- Settles O50: one case of the expiry for each mode. -/
theorem expiryByMode_of_noFault : Obligations.ExpiryByMode := by
  rintro c im s t r r0 T I V Dff opens hr running rfl rfl rfl hopens rfl rfl
  have own (u : State) (x : Regulator) : ((u.setReg c x).reg.get c) = x := PerCorner.get_set_self ..
  have judged (h : r.mode.openJudged = true) : r.openAfter im.toNat = opens := by
    rw [Regulator.openAfter_judged h, hopens]
  have unjudged (h : r.mode.openJudged = false) : r.openAfter im.toNat = 0 := Regulator.openAfter_unjudged h _
  refine ⟨fun n mode short few => ?_, fun n mode short => ?_, fun n sum mode early short few => ?_,
    fun n sum ret mode early short => ?_, fun idle => ?_⟩
  · rw [exec_periodExpiry_passed hr running (fun _ => short) (judged (by rw [mode]; rfl)) few,
      expiryByMode_setReg c _ _ _ _ (.kick n) (by exact mode)]
    refine congrArg (fun x => Host.Outcome.next ((s.atExpiry T).setReg c x)) ?_
    rw [kickExpiry, Regulator.dutyFor_eq]; rfl
  · rw [exec_periodExpiry_passed hr running (fun _ => short) (unjudged (by rw [mode]; rfl)) (by omega),
      expiryByMode_setReg c _ _ _ _ (.quench n) (by exact mode)]
    refine congrArg (fun x => Host.Outcome.next ((s.atExpiry T).setReg c x)) ?_
    rw [quenchExpiry, Regulator.dutyOrZero_eq]; rfl
  · rw [exec_periodExpiry_passed hr running (fun _ => short) (judged (by rw [mode]; rfl)) few,
      expiryByMode_setReg c _ _ _ _ (.probe n sum) (by exact mode)]
    show Host.Outcome.next (probeExpiry c n sum im.toNat s.vbatRead _) = _
    unfold probeExpiry
    rw [if_neg (by omega), own, State.setReg_setReg]; rfl
  · rw [exec_periodExpiry_passed hr running (fun _ => short) (unjudged (by rw [mode]; rfl)) (by omega),
      expiryByMode_setReg c _ _ _ _ (.test n sum ret) (by exact mode)]
    have summed : (if 13 ≤ n + 1 then sum + im.toNat else sum) = if n < 12 then sum else sum + im.toNat := by
      split <;> split <;> omega
    show Host.Outcome.next (testExpiry c n sum ret im.toNat s.vbatRead _) = _
    unfold testExpiry
    simp only [summed]
    rw [if_neg (by omega), own, State.setReg_setReg]; rfl
  · have short : r.mode ≠ .faulted → im.toNat ≤ 2500 := by
      rcases idle with ⟨_, h⟩ | ⟨_, h⟩ | h
      · exact fun _ => h
      · exact fun _ => h
      · exact fun g => absurd h g
    have mode : r.mode = .off ∨ r.mode = .hold ∨ r.mode = .faulted := idle.imp And.left (Or.imp_left And.left)
    have counted : r.openAfter im.toNat = 0 := unjudged (by rcases mode with h | h | h <;> rw [h] <;> rfl)
    rw [exec_periodExpiry_passed hr running short counted (by omega)]
    rcases mode with h | h | h <;> rw [expiryByMode_setReg c _ _ _ _ _ (by exact h)] <;> rfl

end Sys2Proof.Machine

/-! PROOF. Coil faults, and the ends of probes and test excitations. -/

namespace Sys2Proof.Machine

/-! ### A fault raised and a CoilTest answered with it -/

/-- A regulator made Faulted, latched too inside its recovery window. -/
def Regulator.afterFault (r : Regulator) (k : FaultKind) : Regulator := { r with
  mode := .faulted, duty := 0, fault := some k,
  target := (match r.slot with
    | some p => some p.target
    | none => r.target),
  slot := none, probeTimer := none, probeDue := false, openCount := 0, latched := r.latched || r.recovery.isSome }

/-- The link with a fault's record, and inside the recovery window the latch's record after it. -/
def LinkState.withFault (l : LinkState) (e : Event) (c : Corner) (code : Byte) (now : Nat) (recovery : Option Nat) :
    LinkState :=
  match recovery with
  | some R => (l.record e).record (event .coilLatched (some c) code 0 (min 9999 ((now - (R - 10000000)) / 1000)))
  | none => l.record e

/-- A fault leaves all of the link but its records. -/
theorem LinkState.withFault_frame (l : LinkState) (e : Event) (c : Corner) (code : Byte) (now : Nat)
    (recovery : Option Nat) : ∃ ev ov at', l.withFault e c code now recovery =
      { l with events := ev, overflow := ov, atn := at' } := by
  obtain ⟨ev, ov, at', first⟩ := l.record_frame e
  cases recovery with
  | none => exact ⟨ev, ov, at', first⟩
  | some R =>
    obtain ⟨ev', ov', at'', second⟩ := (l.record e).record_frame
      (event .coilLatched (some c) code 0 (min 9999 ((now - (R - 10000000)) / 1000)))
    exact ⟨ev', ov', at'', second.trans (by rw [first])⟩

/-- Answering a CoilTest leaves the Summary. -/
theorem summary_testAnswered {s t : State} {c : Corner} {status : Status} {sum : Byte} {payload : List Byte}
    (hl : t.link = s.link.testAnswered c status sum payload) (hc : t.control = s.control) : summary t = summary s := by
  rw [summary_eq, summary_eq, hl, hc, LinkState.testAnswered]
  cases s.link.inflight.get c <;> rfl

/-- What answering a CoilTest leaves, the Summary taken from the state left. -/
theorem answerTest_left {c : Corner} {s : State} {r : Regulator} (hr : s.reg.get c = r) (status : Status)
    (payload : List Byte) : ∃ t, answerTest c status payload s = t ∧
      t.reg = s.reg.set c (r.answered (s.link.inflight.get c)) ∧
      t.link = s.link.testAnswered c status (summary t) payload ∧
      t = { s with reg := t.reg, link := t.link } := by
  obtain ⟨t, ht⟩ : ∃ t, answerTest c status payload s = t := ⟨_, rfl⟩
  have left := answerTest_eq c status payload s
  rw [ht, hr] at left
  have link : t.link = s.link.testAnswered c status (summary s) payload := by rw [left]
  have sum : summary t = summary s := summary_testAnswered link (by rw [left])
  exact ⟨t, ht, by rw [left], by rw [sum, link], by rw [left]⟩

/-- Answering a CoilTest after records that leave its slot, the replies and the reservations. -/
theorem LinkState.testAnswered_of_frame {l m : LinkState} (h : ∃ ev ov at', m = { l with
      events := ev, overflow := ov, atn := at' }) (c : Corner) (status : Status) (sum : Byte) (payload : List Byte) :
    m.testAnswered c status sum payload = match l.inflight.get c with
      | none => m
      | some tag => { m with
          replies := l.replies ++ [⟨0xC4, tag, status, sum, payload⟩],
          inflight := l.inflight.set c none, reservations := l.reservations - 1 } := by
  obtain ⟨ev, ov, at', rfl⟩ := h
  rfl

/-- What a fault leaves, the answer to a CoilTest in flight included. -/
theorem faultAndAnswer_eq {c : Corner} {s : State} {r : Regulator} (hr : s.reg.get c = r) (k : FaultKind)
    (detail : Byte) (value : Nat) (imp rMeas : Option Nat) : ∃ t, faultAndAnswer c k detail value imp rMeas s = t ∧
      t.reg = s.reg.set c ((r.afterFault k).answered (s.link.inflight.get c)) ∧
      t.link = (s.link.withFault (event k.event (some c) detail 0 value) c (faultCode (some k)) s.now
        r.recovery).testAnswered c .ok (summary t) (testPayload k.outcome imp rMeas r.rEst) ∧
      t = { s with reg := t.reg, link := t.link } := by
  have raised : ∃ u, raiseFault c k detail value s = u ∧ u.reg = s.reg.set c (r.afterFault k) ∧
      u.link = s.link.withFault (event k.event (some c) detail 0 value) c (faultCode (some k)) s.now r.recovery ∧
      u = { s with reg := u.reg, link := u.link } := by
    refine ⟨_, raiseFault_eq c k detail value s, ?_, ?_, rfl⟩
    · rw [hr, Regulator.makeFaulted, r.takeSlot_eq]; rfl
    · rw [hr]
      cases r.recovery <;> rfl
  obtain ⟨u, hu, ureg, ulink, frame⟩ := raised
  obtain ⟨ev, ov, at', same⟩ := s.link.withFault_frame (event k.event (some c) detail 0 value) c (faultCode (some k))
    s.now r.recovery
  have test : u.link.inflight = s.link.inflight := by rw [ulink, same]
  have own : u.reg.get c = r.afterFault k := by rw [ureg, PerCorner.get_set_self]
  obtain ⟨t, ht, treg, tlink, left⟩ := answerTest_left own .ok (testPayload k.outcome imp rMeas r.rEst)
  refine ⟨t, ?_, by rw [treg, ureg, test, PerCorner.set_set], by rw [tlink, ulink], by rw [left, frame]⟩
  have estimate : (u.reg.get c).rEst = r.rEst := by rw [own]; rfl
  rw [faultAndAnswer, hu]
  simp only [estimate]
  exact ht

/-! ### A fault found at an expiry (R132) -/

/-- A period that ends is judged in the part at the expiry time. -/
theorem exec_periodExpiry_judged {c : Corner} {s : State} {r : Regulator} {T : Nat} (hr : r = s.reg.get c)
    (running : r.period = some T) (im : Count) : exec (.periodExpiry c im) s =
      .next (judgeExpiry c im.toNat s.vbatRead ((s.atExpiry T).setReg c (r.atExpiry T im.toNat r.openCount))) := by
  subst hr
  exact congrArg Host.Outcome.next (periodExpiry_running c im s T running)

/-- The two faults an expiry can find, each of which ends it. -/
theorem judgeExpiry_fault {c : Corner} {im : Nat} {s : State} {r : Regulator} {k : FaultKind} (hr : s.reg.get c = r)
    (found : (k = .coilShort ∧ r.mode ≠ .faulted ∧ 2500 < im) ∨
      (k = .coilOpen ∧ r.mode.openJudged = true ∧ 200 ≤ r.duty ∧ im < 20 ∧ r.openCount = 2)) (vbat : Nat) :
    judgeExpiry c im vbat s = faultAndAnswer c k 0 im none none s := by
  subst hr
  unfold judgeExpiry
  simp only
  rcases found with ⟨rfl, sound, high⟩ | ⟨rfl, judged, duty, low, count⟩
  · rw [if_pos ⟨sound, high⟩]
  · have third : (s.reg.get c).openAfter im = 3 := by
      rw [Regulator.openAfter_judged judged, if_pos ⟨duty, low⟩, count]
    rw [if_neg (by omega), if_pos third.ge]

/-- Settles O51: the fault found ends the expiry. -/
theorem faultAtExpiry : Obligations.FaultAtExpiry := by
  rintro c im s r T now kind l1 l2 hr running rfl found rfl rfl
  have own : ((s.atExpiry T).setReg c (r.atExpiry T im.toNat r.openCount)).reg.get c = r.atExpiry T im.toNat r.openCount :=
    PerCorner.get_set_self ..
  have judged : (kind = .coilShort ∧ r.mode ≠ .faulted ∧ 2500 < im.toNat) ∨
      (kind = .coilOpen ∧ r.mode.openJudged = true ∧ 200 ≤ r.duty ∧ im.toNat < 20 ∧ r.openCount = 2) := by
    refine found.imp_right fun ⟨hk, mode, rest⟩ => ⟨hk, ?_, rest⟩
    rcases mode with h | ⟨_, h⟩ | ⟨_, _, h⟩ <;> rw [h] <;> rfl
  obtain ⟨t, ht, treg, tlink, left⟩ := faultAndAnswer_eq own kind 0 im.toNat none none
  rw [exec_periodExpiry_judged hr running, judgeExpiry_fault own judged, ht]
  have kinds : kind = .coilShort ∨ kind = .coilOpen := found.imp And.left And.left
  have link : t.link = (s.link.withFault (event (if kind = .coilShort then .coilShort else .coilOpen) (some c) 0 0
      im.toNat) c (if kind = .coilShort then 2 else 1) (max s.now T) r.recovery).testAnswered c .ok (summary t)
        ([if kind = .coilShort then 3 else 1, 0xFF, 0xFF, 0xFF, 0xFF] ++ bytes2 (value16 r.rEst)) := by
    rw [tlink]
    rcases kinds with rfl | rfl <;> rfl
  rw [LinkState.testAnswered_of_frame (s.link.withFault_frame ..)] at link
  refine ⟨t, rfl, ?_, fun free => ?_, fun tag held => ?_, ?_⟩
  · rw [treg]
    refine (PerCorner.set_set ..).trans (congrArg (s.reg.set c) ?_)
    show Regulator.answered (s.link.inflight.get c) _ = _
    cases s.link.inflight.get c
    · rw [Regulator.answered_none]; rfl
    · rw [Regulator.answered, Option.isNone_some, Bool.and_false]; rfl
  · rw [link, free]; rfl
  · rw [link, held]; rfl
  · rw [left]; rfl

/-! ### The ends of a measurement (R125, R135, R138) -/

/-- The CoilTest payload with its absent fields as words. -/
theorem testPayload_eq (o : TestOutcome) (imp rMeas : Option Nat) (rEst : Nat) : testPayload o imp rMeas rEst =
    [o.code] ++ bytes2 (wordOf imp) ++ bytes2 (wordOf (rMeas.map (min 65534))) ++ bytes2 (value16 rEst) := by
  rw [testPayload, optBytes2_eq, optBytes2_eq]

/-- The payload of a measurement inside the window. -/
theorem testPayload_measured {rMeas : Nat} (h : rMeas ≤ 20000) (imp rEst : Nat) :
    testPayload .measured (some imp) (some rMeas) rEst =
      [0] ++ bytes2 (wordOf (some imp)) ++ bytes2 (wordOf (some rMeas)) ++ bytes2 (value16 rEst) := by
  rw [testPayload_eq, Option.map_some, Nat.min_eq_right (by omega)]; rfl

/-- What a measurement that finds a fault leaves: CoilOpen below 20 mA, else CoilResistance. -/
theorem measuredFault_eq {c : Corner} {s : State} {r : Regulator} (hr : s.reg.get c = r) (detail : Byte)
    (imp rMeas : Nat) (shownImp shownMeas : Option Nat) : ∃ t,
      (if imp < 20 then faultAndAnswer c .coilOpen detail imp shownImp none s
        else faultAndAnswer c .coilResistance detail rMeas shownImp shownMeas s) = t ∧
      t.reg = s.reg.set c ((r.afterFault (if imp < 20 then .coilOpen else .coilResistance)).answered
        (s.link.inflight.get c)) ∧
      t.link = (s.link.withFault (if imp < 20 then event .coilOpen (some c) detail 0 imp
          else event .coilResistance (some c) detail 0 rMeas) c (if imp < 20 then 1 else 3) s.now
        r.recovery).testAnswered c .ok (summary t)
          ([if imp < 20 then 1 else 2] ++ bytes2 (wordOf shownImp) ++
            bytes2 (wordOf (if imp < 20 then none else shownMeas.map (min 65534))) ++ bytes2 (value16 r.rEst)) ∧
      t = { s with reg := t.reg, link := t.link } := by
  by_cases low : imp < 20
  · obtain ⟨t, ht, treg, tlink, left⟩ := faultAndAnswer_eq hr .coilOpen detail imp shownImp none
    rw [testPayload_eq] at tlink
    simp only [low, if_true]
    exact ⟨t, ht, treg, tlink, left⟩
  · obtain ⟨t, ht, treg, tlink, left⟩ := faultAndAnswer_eq hr .coilResistance detail rMeas shownImp shownMeas
    rw [testPayload_eq] at tlink
    simp only [low, if_false]
    exact ⟨t, ht, treg, tlink, left⟩

/-! ### The end of a probe (R125) -/

/-- A probe whose measurement lies outside the window, or below 20 mA. -/
theorem probeEnd_fault {c : Corner} {sum vbat imp rMeas : Nat} {s : State} (hi : meanOfFour sum = imp)
    (hm : resistance (s.reg.get c).duty vbat imp = rMeas) (bad : imp < 20 ∨ rMeas < 800 ∨ 20000 < rMeas) :
    probeEnd c sum vbat s =
      if imp < 20 then faultAndAnswer c .coilOpen 1 imp (if serving c s then some imp else none) none s
      else faultAndAnswer c .coilResistance 1 rMeas (if serving c s then some imp else none)
        (if serving c s then some rMeas else none) s := by
  subst hi hm
  unfold probeEnd
  simp only
  by_cases low : meanOfFour sum < 20
  · rw [if_pos low, if_pos low]
  · rw [if_neg low, if_neg low, if_pos (by simpa [outOfWindow] using bad.resolve_left low)]

/-- A probe whose measurement lies inside the window. -/
theorem probeEnd_measured {c : Corner} {sum vbat imp rMeas : Nat} {s : State} {r : Regulator} (hr : s.reg.get c = r)
    (hi : meanOfFour sum = imp) (hm : resistance r.duty vbat imp = rMeas)
    (sound : ¬ (imp < 20 ∨ rMeas < 800 ∨ 20000 < rMeas)) : probeEnd c sum vbat s =
      if serving c s then
        answerTest c .ok (testPayload .measured (some imp) (some rMeas)
          (probeMeasured s.regulation c s.now rMeas vbat r).rEst)
          (s.setReg c (probeMeasured s.regulation c s.now rMeas vbat r))
      else s.setReg c (probeMeasured s.regulation c s.now rMeas vbat r) := by
  subst hr hi hm
  obtain ⟨current, window⟩ := not_or.1 sound
  have inside : ¬ outOfWindow (resistance (s.reg.get c).duty vbat (meanOfFour sum)) = true := by
    simpa [outOfWindow] using window
  unfold probeEnd
  simp only
  rw [if_neg current, if_neg inside]
  simp only [State.setReg_reg, PerCorner.get_set_self]

/-- The regulator a sound probe leaves before its pending target is applied. -/
def Regulator.probed (r : Regulator) (g : Regulation) (c : Corner) (now rEst duty : Nat) : Regulator := { r with
  mode := .regulating, rEst := rEst, duty := duty,
  probeTimer := if g.probeCorners.get c then some (now + 1000 * g.probeInterval) else r.probeTimer }

/-- A pending target is ready when its apply time, if one is kept, has been reached. -/
theorem Pending.ready_eq (p : Pending) (now : Nat) : p.ready now = decide (p.applyAt.getD 0 ≤ now) := by
  obtain ⟨_, at'⟩ := p
  cases at'
  · exact (decide_eq_true (Nat.zero_le now)).symm
  · rfl

theorem startProbeTimer_eq (g : Regulation) (c : Corner) (now : Nat) (r : Regulator) : startProbeTimer g c now r =
    { r with probeTimer := if g.probeCorners.get c then some (now + 1000 * g.probeInterval) else r.probeTimer } := by
  rw [startProbeTimer]
  split <;> rfl

/-- The kick-or-quench test keeps the probe timer. -/
theorem kickOrQuench_probeTimer (g : Regulation) (old new : Nat) (timer : Option Nat) (r : Regulator) :
    { kickOrQuench g old new r with probeTimer := timer } =
      kickOrQuench g old new { r with probeTimer := timer } := by
  by_cases kick : 0 < g.kickStep ∧ 0 < g.kickTime ∧ old + g.kickStep ≤ new
  · simp only [kickOrQuench_eq, if_pos kick]
  · by_cases quench : 0 < g.quenchStep ∧ 0 < g.quenchTime ∧ new + g.quenchStep ≤ old
    · simp only [kickOrQuench_eq, if_neg kick, if_pos quench]
    · simp only [kickOrQuench_eq, if_neg kick, if_neg quench]

/-- A sound probe with no pending target that is ready. -/
theorem probeMeasured_waiting {g : Regulation} {now : Nat} {r : Regulator}
    (h : ∀ p, r.slot = some p → ¬ p.applyAt.getD 0 ≤ now) (c : Corner) (rMeas vbat : Nat) :
    probeMeasured g c now rMeas vbat r = r.probed g c now (moveEstimate r.rEst rMeas)
      (Regulator.dutyOrZero { r with rEst := moveEstimate r.rEst rMeas, mode := .regulating } vbat) := by
  have kept (x : Regulator) (same : x.slot = r.slot) : applyReady g now x = x := by
    rw [applyReady, same]
    cases slot : r.slot with
    | none => rfl
    | some p => exact if_neg (by rw [p.ready_eq, decide_eq_true_iff]; exact h p slot)
  rw [probeMeasured, kept, startProbeTimer_eq] <;> rfl

/-- A sound probe with a pending target that is ready. -/
theorem probeMeasured_ready {g : Regulation} {now : Nat} {r : Regulator} {p : Pending} (slot : r.slot = some p)
    (ready : p.applyAt.getD 0 ≤ now) (c : Corner) (rMeas vbat : Nat) :
    probeMeasured g c now rMeas vbat r = kickOrQuench g r.targetNow p.target { r.probed g c now (moveEstimate r.rEst rMeas)
      (Regulator.dutyOrZero { r with rEst := moveEstimate r.rEst rMeas, mode := .regulating } vbat) with
        slot := none } := by
  have applied (x : Regulator) (same : x.slot = r.slot) :
      applyReady g now x = kickOrQuench g x.targetNow p.target { x with slot := none } := by
    rw [applyReady, same, slot]
    exact if_pos (by rw [p.ready_eq, decide_eq_true_iff]; exact ready)
  have timer (x : Regulator) : (kickOrQuench g x.targetNow p.target { x with slot := none }).probeTimer = x.probeTimer := by
    rcases kickOrQuench_cases g x.targetNow p.target { x with slot := none } with ⟨_, _, _, h⟩ | ⟨_, _, _, h⟩ | h <;> rw [h]
  rw [probeMeasured, applied, startProbeTimer_eq, timer, kickOrQuench_probeTimer] <;> rfl

/-- A sound probe sets the estimate and leaves CoilTest waiting. -/
theorem probeMeasured_estimate (g : Regulation) (c : Corner) (now rMeas vbat : Nat) (r : Regulator) :
    (probeMeasured g c now rMeas vbat r).rEst = moveEstimate r.rEst rMeas ∧
      (probeMeasured g c now rMeas vbat r).testWaiting = r.testWaiting := by
  by_cases ready : ∃ p, r.slot = some p ∧ p.applyAt.getD 0 ≤ now
  · obtain ⟨p, slot, ready⟩ := ready
    rw [probeMeasured_ready slot ready]
    rcases kickOrQuench_cases g r.targetNow p.target { r.probed g c now (moveEstimate r.rEst rMeas)
      (Regulator.dutyOrZero { r with rEst := moveEstimate r.rEst rMeas, mode := .regulating } vbat) with
        slot := none } with ⟨_, _, _, h⟩ | ⟨_, _, _, h⟩ | h <;> rw [h] <;> exact ⟨rfl, rfl⟩
  · rw [probeMeasured_waiting fun p slot now => ready ⟨p, slot, now⟩]
    exact ⟨rfl, rfl⟩

/-- A probe serves a CoilTest that is in flight and no longer waits. -/
theorem serving_eq {c : Corner} {s : State} {r : Regulator} (hr : s.reg.get c = r) :
    serving c s = ((s.link.inflight.get c).isSome && !r.testWaiting) := by
  rw [serving, hr]

/-- Settles O52. -/
theorem probeEnds : Obligations.ProbeEnds := by
  rintro c im s r r0 base T I V sum imp rMeas rEst Dff opens now bad answered kicked hr running mode target rfl rfl short
    hopens few himp hmeas hbad hest hD hr0 hbase hkicked rfl
  have counted : r.openAfter im.toNat = opens := by rw [Regulator.openAfter_judged (by rw [mode]; rfl), hopens]
  have own : ((s.atExpiry T).setReg c r0).reg.get c = r0 := PerCorner.get_set_self ..
  have ended : exec (.periodExpiry c im) s =
      .next (probeEnd c (sum + im.toNat) s.vbatRead ((s.atExpiry T).setReg c r0)) := by
    rw [exec_periodExpiry_passed hr running (fun _ => short) counted few,
      expiryByMode_setReg c _ _ _ _ (.probe 3 sum) (by exact mode), hr0]
    exact congrArg Host.Outcome.next (if_pos (by omega))
  have served : serving c ((s.atExpiry T).setReg c r0) = ((s.link.inflight.get c).isSome && !r.testWaiting) := by
    rw [serving_eq own, hr0]; rfl
  rw [ended]
  by_cases outside : imp < 20 ∨ rMeas < 800 ∨ 20000 < rMeas
  · obtain ⟨t, ht, treg, tlink, left⟩ := measuredFault_eq own 1 imp rMeas
      (if serving c ((s.atExpiry T).setReg c r0) then some imp else none)
      (if serving c ((s.atExpiry T).setReg c r0) then some rMeas else none)
    rw [probeEnd_fault himp.symm (by rw [own, hr0]; exact hmeas.symm) outside, ht]
    rw [LinkState.testAnswered_of_frame (LinkState.withFault_frame ..), served] at tlink
    refine ⟨t, rfl, ?_, ?_, by rw [left]; rfl⟩
    · rintro - l1 l2 rfl rfl
      have link : ((s.atExpiry T).setReg c r0).link = s.link := rfl
      rw [link] at tlink treg
      subst hr0
      constructor
      · cases held : s.link.inflight.get c with
        | none =>
          rw [held] at tlink
          exact tlink
        | some tag =>
          have shownImp : (if ((some tag).isSome && !r.testWaiting) = true then some imp
              else none) = if r.testWaiting then none else some imp := by
            show (if (true && !r.testWaiting) = true then some imp else none) = _
            cases r.testWaiting <;> rfl
          have shownMeas : (if imp < 20 then none else
              (if ((some tag).isSome && !r.testWaiting) = true then some rMeas
                else none).map (min 65534)) = if r.testWaiting = true ∨ imp < 20 then none else some (min 65534 rMeas) := by
            show (if imp < 20 then none else (if (true && !r.testWaiting) = true then some rMeas else none).map _) = _
            by_cases low : imp < 20
            · rw [if_pos low, if_pos (.inr low)]
            · cases r.testWaiting <;> simp [low]
          rw [held, shownImp, shownMeas] at tlink
          exact tlink
      · refine treg.trans ((PerCorner.set_set ..).trans (congrArg (s.reg.set c) ?_))
        rfl
    · intro h
      rw [hbad, decide_eq_true outside] at h
      exact absurd h (by decide)
  · obtain ⟨r1, hr1⟩ : ∃ r1, probeMeasured s.regulation c (max s.now T) rMeas s.vbatRead r0 = r1 := ⟨_, rfl⟩
    have estimate : moveEstimate r0.rEst rMeas = rEst := by
      rw [hest, moveEstimate, clamp_eq _ _ _ (by decide), hr0]; rfl
    have current : r0.targetNow = I := Regulator.targetNow_of_target (by rw [hr0]; exact target)
    have atBase : r0.probed s.regulation c (max s.now T) (moveEstimate r0.rEst rMeas) (Regulator.dutyOrZero
        { r0 with rEst := moveEstimate r0.rEst rMeas, mode := .regulating } s.vbatRead) = base := by
      rw [Regulator.dutyOrZero_eq, estimate, show Regulator.targetNow { r0 with rEst := rEst, mode := .regulating } = I from
        current, hbase, hD, hr0]
      rfl
    have kept := probeMeasured_estimate s.regulation c (max s.now T) rMeas s.vbatRead r0
    rw [hr1, estimate] at kept
    obtain ⟨rEst1, waiting1⟩ := kept
    have unslotted (h : r.slot = none) : r1 = base := by
      rw [← hr1, probeMeasured_waiting (by rw [hr0]; exact fun p hp => absurd (h.symm.trans hp) (by simp)), atBase]
    have slotted (p : Pending) (h : r.slot = some p) :
        r1 = if p.applyAt.getD 0 ≤ max s.now T then kicked p.target else base := by
      by_cases ready : p.applyAt.getD 0 ≤ max s.now T
      · rw [if_pos ready, ← hr1, probeMeasured_ready (p := p) (by rw [hr0]; exact h) ready, atBase, current,
          kickOrQuench_eq, hkicked, hbase]
      · rw [if_neg ready, ← hr1, probeMeasured_waiting (by
          rw [hr0]; intro q hq; obtain rfl := Option.some.inj (h.symm.trans hq); exact ready), atBase]
    have measured := probeEnd_measured own himp.symm (by rw [hr0]; exact hmeas.symm) outside
    rw [show probeMeasured ((s.atExpiry T).setReg c r0).regulation c ((s.atExpiry T).setReg c r0).now rMeas s.vbatRead r0 =
      r1 from hr1, rEst1, testPayload_measured (by omega), served, State.setReg_setReg] at measured
    have sound : bad = false := by rw [hbad, decide_eq_false outside]
    rw [measured]
    by_cases answers : ((s.link.inflight.get c).isSome && !r.testWaiting) = true
    · have spoken : r.testWaiting = false := by
        rw [Bool.and_eq_true, Bool.not_eq_true'] at answers; exact answers.2
      have own1 : ((s.atExpiry T).setReg c r1).reg.get c = r1 := PerCorner.get_set_self ..
      obtain ⟨t, ht, treg, tlink, left⟩ := answerTest_left own1 .ok
        ([0] ++ bytes2 (wordOf (some imp)) ++ bytes2 (wordOf (some rMeas)) ++ bytes2 (value16 rEst))
      have idle : r1.testWaiting = false := by rw [waiting1, hr0]; exact spoken
      have reg : t.reg = s.reg.set c r1 := by
        rw [treg, Regulator.answered_of_idle idle]
        exact PerCorner.set_set ..
      rw [if_pos answers, ht]
      refine ⟨t, rfl, fun h => absurd (sound.symm.trans h) (by decide), fun _ => ⟨?_, fun h => ?_, fun p h => ?_⟩,
        by rw [left]; rfl⟩
      · rw [tlink, spoken]; rfl
      · rw [reg, unslotted h]
      · rw [reg, slotted p h]
    · rw [if_neg answers]
      refine ⟨_, rfl, fun h => absurd (sound.symm.trans h) (by decide), fun _ => ⟨?_, fun h => ?_, fun p h => ?_⟩, rfl⟩
      · cases waits : r.testWaiting
        · have free : s.link.inflight.get c = none := by
            rw [waits] at answers
            simpa using answers
          rw [free]; rfl
        · rfl
      · rw [unslotted h]; rfl
      · rw [slotted p h]; rfl

end Sys2Proof.Machine

/-! PROOF. The end of a test excitation. -/

namespace Sys2Proof.Machine

/-! ### A sound coil (R139) -/

/-- A regulator whose coil has recovered, before its mode is chosen. -/
def Regulator.recoveredAt (r : Regulator) (now rEst : Nat) : Regulator := { r with
  trim := 0, rEst := rEst, fault := none, recovery := some (now + 10000000) }

/-- The regulator a sound coil's test excitation leaves, by the mode it came from. -/
def Regulator.afterTest (r : Regulator) (s : State) (c : Corner) (ret : ReturnMode) (rEst : Nat) : Regulator :=
  match ret with
  | .off => { r with mode := .off, duty := 0, trim := 0, rEst := rEst }
  | .faulted =>
    if s.driving ∧ (s.sensing.get c).enabled then
      entryFromZero s.regulation s.supply.band c s.now (r.recoveredAt s.now rEst)
    else { r.recoveredAt s.now rEst with mode := .off, duty := 0 }

/-- What a sound coil's test excitation leaves. -/
theorem testSucceeds_eq {c : Corner} {s : State} {r : Regulator} (hr : s.reg.get c = r) (ret : ReturnMode)
    (rMeas : Nat) : testSucceeds c ret rMeas s = { s with
      reg := s.reg.set c (r.afterTest s c ret (max 1500 (min 12000 rMeas))),
      link := if ret = .off then s.link else s.link.record (event .coilRecovered (some c) 0 0 rMeas) } := by
  subst hr
  have clamped : (clamp 1500 12000 (rMeas : Int)).toNat = max 1500 (min 12000 rMeas) := by
    rw [clamp_eq _ _ _ (by decide)]; omega
  cases ret with
  | off => rw [testSucceeds, clamped]; rfl
  | faulted =>
    rw [testSucceeds, clamped]
    simp only [recover, queueEvent_eq, State.setReg, PerCorner.get_set_self, PerCorner.set_set]
    by_cases driven : s.driving = true ∧ (s.sensing.get c).enabled = true
    · refine (if_pos driven).trans ?_
      simp only [Regulator.afterTest, if_pos driven]
      rfl
    · refine (if_neg driven).trans ?_
      simp only [Regulator.afterTest, if_neg driven]
      rfl

/-! ### The end of a test excitation (R138) -/

/-- A test excitation whose measurement lies outside the window, or below 20 mA. -/
theorem testEnd_fault {sum vbat imp rMeas : Nat} (hi : meanOfFour sum = imp) (hm : resistance testDuty vbat imp = rMeas)
    (bad : imp < 20 ∨ rMeas < 800 ∨ 20000 < rMeas) (c : Corner) (ret : ReturnMode) (s : State) :
    testEnd c ret sum vbat s =
      if imp < 20 then faultAndAnswer c .coilOpen 2 imp (some imp) none s
      else faultAndAnswer c .coilResistance 2 rMeas (some imp) (some rMeas) s := by
  subst hi hm
  unfold testEnd
  simp only
  by_cases low : meanOfFour sum < 20
  · rw [if_pos low, if_pos low]
  · rw [if_neg low, if_neg low, if_pos (by simpa [outOfWindow] using bad.resolve_left low)]

/-- A test excitation whose measurement lies inside the window. -/
theorem testEnd_measured {sum vbat imp rMeas : Nat} (hi : meanOfFour sum = imp)
    (hm : resistance testDuty vbat imp = rMeas) (sound : ¬ (imp < 20 ∨ rMeas < 800 ∨ 20000 < rMeas)) (c : Corner)
    (ret : ReturnMode) (s : State) : testEnd c ret sum vbat s =
      answerTest c .ok (testPayload .measured (some imp) (some rMeas) ((testSucceeds c ret rMeas s).reg.get c).rEst)
        (testSucceeds c ret rMeas s) := by
  subst hi hm
  obtain ⟨current, window⟩ := not_or.1 sound
  have inside : ¬ outOfWindow (resistance testDuty vbat (meanOfFour sum)) = true := by
    simpa [outOfWindow] using window
  unfold testEnd
  simp only
  rw [if_neg current, if_neg inside]

/-- The entry with a step from 0 keeps the estimate. -/
theorem entryFromZero_estimate (g : Regulation) (band : Band) (c : Corner) (now : Nat) (r : Regulator) :
    (entryFromZero g band c now r).rEst = r.rEst := by
  rw [entryFromZero]
  split
  · rfl
  · rw [startProbeTimer_eq]
    rcases kickOrQuench_cases g 0 r.targetNow { r with
      mode := .regulating, probeDue := false,
      probeTimer := if g.probeCorners.get c then some (now + 1000 * g.probeInterval) else r.probeTimer }
      with ⟨_, _, _, h⟩ | ⟨_, _, _, h⟩ | h <;> rw [h]

/-- The entry with a step from 0 at a target that is present: no quench starts. -/
theorem entryFromZero_of_target {g : Regulation} {band : Band} {r : Regulator} {I : Nat} (hband : band ≠ .hold)
    (target : r.target = some I) (c : Corner) (now : Nat) : entryFromZero g band c now r =
      if 0 < g.kickStep ∧ 0 < g.kickTime ∧ g.kickStep ≤ I then { r with
        mode := .kick 0, duty := 1023, probeDue := false,
        probeTimer := if g.probeCorners.get c then some (now + 1000 * g.probeInterval) else r.probeTimer }
      else { r with
        mode := .regulating, probeDue := false,
        probeTimer := if g.probeCorners.get c then some (now + 1000 * g.probeInterval) else r.probeTimer } := by
  rw [entryFromZero, if_neg hband, startProbeTimer_eq, Regulator.targetNow_of_target target, kickOrQuench_eq,
    if_neg (c := 0 < g.quenchStep ∧ 0 < g.quenchTime ∧ I + g.quenchStep ≤ 0) (by omega), ← target, Nat.zero_add]

/-- What a sound coil leaves of the estimate. -/
theorem Regulator.afterTest_estimate (r : Regulator) (s : State) (c : Corner) (ret : ReturnMode) (rEst : Nat) :
    (r.afterTest s c ret rEst).rEst = rEst := by
  cases ret with
  | off => rfl
  | faulted =>
    rw [Regulator.afterTest]
    split
    · exact entryFromZero_estimate ..
    · rfl

/-- The sixteenth expiry ends a test excitation. -/
theorem testExpiry_last (c : Corner) (sum : Nat) (ret : ReturnMode) (im vbat : Nat) (s : State) :
    testExpiry c 15 sum ret im vbat s = testEnd c ret (sum + im) vbat s := by
  simp [testExpiry]

/-- Settles O53: a fault as at a probe's end, and for a sound coil the mode it came from. -/
theorem testEnds : Obligations.TestEnds := by
  rintro c im s r r0 back T V sum imp rMeas rEst now ret bad answered hr running mode rfl rfl short himp hmeas hbad hest
    hr0 hback rfl
  have counted : r.openAfter im.toNat = 0 := Regulator.openAfter_unjudged (by rw [mode]; rfl) _
  have own : ((s.atExpiry T).setReg c (r.atExpiry T im.toNat 0)).reg.get c = r.atExpiry T im.toNat 0 :=
    PerCorner.get_set_self ..
  have ended : exec (.periodExpiry c im) s =
      .next (testEnd c ret (sum + im.toNat) s.vbatRead ((s.atExpiry T).setReg c (r.atExpiry T im.toNat 0))) := by
    rw [exec_periodExpiry_passed hr running (fun _ => short) counted (by decide),
      expiryByMode_setReg c _ _ _ _ (.test 15 sum ret) (by exact mode)]
    exact congrArg Host.Outcome.next (testExpiry_last ..)
  rw [ended]
  by_cases outside : imp < 20 ∨ rMeas < 800 ∨ 20000 < rMeas
  · obtain ⟨t, ht, treg, tlink, left⟩ := measuredFault_eq own 2 imp rMeas (some imp) (some rMeas)
    rw [testEnd_fault himp.symm hmeas.symm outside, ht]
    rw [LinkState.testAnswered_of_frame (LinkState.withFault_frame ..)] at tlink
    refine ⟨t, rfl, ?_, ?_, by rw [left]; rfl⟩
    · rintro - l1 l2 rfl rfl
      refine ⟨tlink, treg.trans ((PerCorner.set_set ..).trans (congrArg (s.reg.set c) ?_))⟩
      rw [hr0]; rfl
    · intro h
      rw [hbad, decide_eq_true outside] at h
      exact absurd h (by decide)
  · have sound : bad = false := by rw [hbad, decide_eq_false outside]
    have measured := testEnd_measured himp.symm hmeas.symm outside c ret
      ((s.atExpiry T).setReg c (r.atExpiry T im.toNat 0))
    have succeeds := testSucceeds_eq own ret rMeas
    rw [← hest] at succeeds
    obtain ⟨u, hu⟩ : ∃ u, testSucceeds c ret rMeas ((s.atExpiry T).setReg c (r.atExpiry T im.toNat 0)) = u := ⟨_, rfl⟩
    rw [hu] at succeeds measured
    obtain ⟨r1, hr1⟩ : ∃ r1, (r.atExpiry T im.toNat 0).afterTest (s.atExpiry T) c ret rEst = r1 := ⟨_, rfl⟩
    have ureg : u.reg = s.reg.set c r1 := by rw [succeeds, ← hr1]; exact PerCorner.set_set ..
    have own1 : u.reg.get c = r1 := by rw [ureg, PerCorner.get_set_self]
    have estimate : r1.rEst = rEst := hr1 ▸ Regulator.afterTest_estimate ..
    rw [own1, estimate, testPayload_measured (by omega)] at measured
    obtain ⟨t, ht, treg, tlink, left⟩ := answerTest_left own1 .ok
      ([0] ++ bytes2 (wordOf (some imp)) ++ bytes2 (wordOf (some rMeas)) ++ bytes2 (value16 rEst))
    have ulink : u.link = if ret = .off then s.link else s.link.record (event .coilRecovered (some c) 0 0 rMeas) := by
      rw [succeeds]; rfl
    have test : u.link.inflight = s.link.inflight := by
      rw [ulink]; split <;> simp
    have reg : t.reg = s.reg.set c (r1.answered (s.link.inflight.get c)) := by rw [treg, ureg, test, PerCorner.set_set]
    rw [measured, ht]
    refine ⟨t, rfl, fun h => absurd (sound.symm.trans h) (by decide), fun _ => ⟨?_, ?_, ?_, ?_⟩, ?_⟩
    · have frame : ∃ ev ov at', u.link = { s.link with events := ev, overflow := ov, atn := at' } := by
        rw [ulink]
        split
        · exact ⟨_, _, _, rfl⟩
        · exact LinkState.record_frame ..
      rw [LinkState.testAnswered_of_frame frame, ulink] at tlink
      exact tlink
    · rintro rfl
      rw [reg, ← hr1, hr0]; rfl
    · rintro rfl idle
      have undriven : ¬ ((s.atExpiry T).driving = true ∧ ((s.atExpiry T).sensing.get c).enabled = true) := by
        rintro ⟨driven, on⟩
        rcases idle with h | h
        · exact absurd (h.symm.trans driven) (by decide)
        · exact absurd (h.symm.trans on) (by decide)
      rw [reg, ← hr1, Regulator.afterTest, if_neg undriven, hback, hr0]; rfl
    · rintro rfl driven on
      have entry : r1 = entryFromZero s.regulation s.supply.band c (max s.now T)
          ((r.atExpiry T im.toNat 0).recoveredAt (max s.now T) rEst) := by
        rw [← hr1]
        exact if_pos ⟨driven, on⟩
      refine ⟨fun hold => ?_, fun I p hold target hp => ?_⟩
      · rw [reg, entry, entryFromZero, if_pos hold, hback, hr0]; rfl
      · rw [reg, entry, entryFromZero_of_target hold (I := I) (by exact target), hp, hback, hr0]
        split <;> rfl
    · rw [left, succeeds]; rfl

end Sys2Proof.Machine

/-! PROOF. The end-stop guard, and travel conversions handed to it and to the impact detectors. -/

namespace Sys2Proof.Machine

/-! ### The end-stop guard (5.4) -/

/-- A Released guard is left as it is. -/
theorem releaseGuard_released {c : Corner} {s : State} (h : (s.guard.get c).engaged = none) : releaseGuard c s = s := by
  rw [releaseGuard, h]

/-- An Engaged guard that is released: the arbiter resolves without its guard form. -/
theorem releaseGuard_engaged {c : Corner} {s : State} (h : (s.guard.get c).engaged ≠ none) :
    releaseGuard c s = resolve c { s with
      guard := s.guard.set c { s.guard.get c with engaged := none, timer := none },
      arbiter := s.arbiter.set c { s.arbiter.get c with guard := none } } := by
  obtain ⟨side, engaged⟩ := Option.ne_none_iff_exists'.1 h
  rw [releaseGuard, engaged]; rfl

/-- The guard Engaged on a side, its hold timer started again unless GuardHold is 0. -/
def Guard.engagedOn (g : Guard) (side : Dir) (now : Nat) : Guard := { g with
  engaged := some side, timer := if g.guardHold = 0 then g.timer else some (now + 1000 * g.guardHold) }

/-- A sample that calls for the guard, by the side it is Engaged on. -/
theorem engageGuard_eq (c : Corner) (side : Dir) (x : Int) (s : State) : engageGuard c side x s =
    match (s.guard.get c).engaged with
    | none => queueEvent (event .guardEngaged (some c) side.code 0 x.natAbs)
        (handGuard c (some (s.guard.get c).guardDemand) (s.setGuard c ((s.guard.get c).engagedOn side s.now)))
    | some d =>
      if d = side then s.setGuard c ((s.guard.get c).engagedOn side s.now)
      else queueEvent (event .guardEngaged (some c) side.code 0 x.natAbs)
        (s.setGuard c ((s.guard.get c).engagedOn side s.now)) := by
  unfold engageGuard
  simp only [ne_eq, ite_not]
  cases (s.guard.get c).engaged <;> rfl

/-- A guard acts in Running and Failsafe. -/
theorem driving_of_part {s : State} (h : s.control.part = .running ∨ s.control.part = .failsafe) : s.driving = true := by
  rcases h with h | h <;> simp [State.driving, h]

/-- A sample that calls for the guard on a side. -/
theorem guardSample_called {c : Corner} {x v : Int} {s : State} {side : Dir} (driven : s.driving = true)
    (called : (s.guard.get c).calledBy x v = some side) : guardSample c x v s = engageGuard c side x s := by
  rw [guardSample, if_pos driven]
  simp only [called]

/-- A sample that does not call for the guard. -/
theorem guardSample_uncalled {c : Corner} {x v : Int} {s : State} (driven : s.driving = true)
    (called : (s.guard.get c).calledBy x v = none) :
    guardSample c x v s = if (s.guard.get c).timer.isNone then releaseGuard c s else s := by
  rw [guardSample, if_pos driven]
  simp only [called]

/-- Settles O45: the guard acts by the side a sample calls for and by the side it is Engaged on. -/
theorem guardActs : Obligations.GuardActs := by
  rintro c x v s g a released called rfl rfl hcalled rfl
  have calledBy : (s.guard.get c).calledBy x v = called := hcalled.symm
  refine ⟨fun run safe => ?_, fun part => ⟨fun side g' hc hg => ?_, fun hc timer engaged => ?_, fun hc idle => ?_⟩,
    fun T timer engaged => ?_, fun T timer released => ?_⟩
  · have undriven : ¬ s.driving = true := by simp [State.driving, run, safe]
    rw [guardSample, if_neg undriven]
  · have acts : guardSample c x v s = engageGuard c side x s :=
      guardSample_called (driving_of_part part) (calledBy.trans hc)
    rw [acts, engageGuard_eq, show (s.guard.get c).engagedOn side s.now = g' from hg.symm]
    refine ⟨fun released t ht => ?_, fun same => ?_, fun other => ?_⟩
    · have link : t.link = s.link := by rw [ht]; exact (resolve_link ..).1
      rw [released, ← link, ht]; rfl
    · rw [same]; exact if_pos rfl
    · rw [other]; exact if_neg (by cases side <;> decide)
  · rw [guardSample_uncalled (driving_of_part part) (calledBy.trans hc), if_pos (Option.isNone_iff_eq_none.2 timer),
      releaseGuard_engaged engaged]
  · rw [guardSample_uncalled (driving_of_part part) (calledBy.trans hc)]
    rcases idle with held | released
    · rw [if_neg (by simpa using held)]
    · rw [releaseGuard_released released, ite_self]
  · have expired : holdExpiry c s = releaseGuard c
        ((s.reachTime T).setGuard c { s.guard.get c with timer := none }) := by rw [holdExpiry, timer]
    refine congrArg Host.Outcome.next (expired.trans ?_)
    rw [releaseGuard_engaged (by simpa [State.setGuard] using engaged)]
    simp only [State.setGuard, PerCorner.get_set_self, PerCorner.set_set]
    rfl
  · have expired : holdExpiry c s = releaseGuard c
        ((s.reachTime T).setGuard c { s.guard.get c with timer := none }) := by rw [holdExpiry, timer]
    refine congrArg Host.Outcome.next (expired.trans ?_)
    rw [releaseGuard_released (by simpa [State.setGuard] using released)]; rfl

/-! ### Travel conversions (chapter 2) -/

/-- The position of a good sample, its rounding and its clamp written out. -/
theorem Sensing.position_eq {x : Sensing} {travelZero scale : Nat} (h : x.scale = some (travelZero, scale)) (raw : Nat)
    {d : Int} (hd : d = (if x.invert then (travelZero : Int) - raw else (raw : Int) - travelZero) * scale) :
    x.position raw =
      if 0 ≤ d then min 2000 ((2 * d + 100) / 200) else max (-2000) (-((2 * -d + 100) / 200)) := by
  rw [Sensing.position, h]
  simp only [← hd]
  rw [clamp_eq _ _ _ (by decide), roundHalfAway, roundHalfUp]
  split <;> omega

/-- The velocity of a full history. -/
theorem Sensing.velocity_full {x : Sensing} {p q u v e : Int} (h : x.history = [p, q, u, v, e]) :
    x.velocity = some ((e - p) * 25) := by
  rw [Sensing.velocity, h]

/-- No velocity before the history holds five positions. -/
theorem Sensing.velocity_short {x : Sensing} (h : x.history.length < 5) : x.velocity = none := by
  rw [Sensing.velocity]
  split
  · rename_i full
    rw [full] at h
    exact absurd h (by simp)
  · rfl

/-- A travel conversion goes to its corner, and the scan moves on. -/
theorem exec_travelConversion {c : Corner} {s : State} (hpos : s.conv.pos = .travel c) (raw : Count) :
    exec (.travelConversion raw) s =
      .next (travelSample c raw.toNat { s with conv := { s.conv with pos := (ScanPos.travel c).next } }) := by
  have done : travelDone raw s = travelSample c raw.toNat (s.setConv { s.conv with pos := s.conv.pos.next }) := by
    rw [travelDone, hpos]
  rw [hpos] at done
  exact congrArg Host.Outcome.next done

/-- A position that the sensing block of a corner holds, handed on once there is a velocity. -/
def handPosition (c : Corner) (pos : Int) (y : Sensing) (s : State) : State :=
  match y.velocity with
  | some v => handSample c pos v s
  | none => s

theorem handPosition_full {y : Sensing} {p q u v e : Int} (h : y.history = [p, q, u, v, e]) (c : Corner) (pos : Int)
    (s : State) : handPosition c pos y s = handSample c pos ((e - p) * 25) s := by
  rw [handPosition, Sensing.velocity_full h]

theorem handPosition_short {y : Sensing} (h : y.history.length < 5) (c : Corner) (pos : Int) (s : State) :
    handPosition c pos y s = s := by
  rw [handPosition, Sensing.velocity_short h]

section GoodSample
variable {c : Corner} {raw : Nat} {s : State} {x y : Sensing}

/-- A good sample at a sound sensor. -/
theorem goodSample_sound (hx : s.sensing.get c = x) (sound : x.faulted = false)
    (hy : y = { x with history := appendPosition (x.position raw) x.history, bad := 0 }) :
    goodSample c raw s = handPosition c (x.position raw) y (s.setSensing c y) := by
  subst hx hy
  unfold goodSample
  simp only [sound, Bool.false_eq_true, if_false]
  rfl

/-- A good sample at a faulted sensor that has not delivered twenty. -/
theorem goodSample_faulted (hx : s.sensing.get c = x) (faulted : x.faulted = true) (few : x.good + 1 < 20) :
    goodSample c raw s = s.setSensing c { x with
      history := appendPosition (x.position raw) x.history, good := x.good + 1 } := by
  subst hx
  unfold goodSample
  simp only
  rw [if_pos faulted, if_neg (by omega)]

/-- The good sample that ends a sensor fault. -/
theorem goodSample_recovers (hx : s.sensing.get c = x) (faulted : x.faulted = true) (enough : 20 ≤ x.good + 1)
    (hy : y = { x with history := appendPosition (x.position raw) x.history, faulted := false, good := 0 }) :
    goodSample c raw s = handPosition c (x.position raw) y
      (queueEvent (event .sensorRecovered (some c) 0 0 raw) (s.setSensing c y)) := by
  subst hx hy
  unfold goodSample
  simp only
  rw [if_pos faulted, if_pos enough]; rfl

/-- A bad sample at a faulted sensor. -/
theorem badSample_faulted (hx : s.sensing.get c = x) (faulted : x.faulted = true) :
    badSample c raw s = s.setSensing c { x with history := [], good := 0 } := by
  subst hx
  rw [badSample, if_pos faulted]

/-- A bad sample at a sound sensor that is not the third in a run. -/
theorem badSample_sound (hx : s.sensing.get c = x) (sound : x.faulted = false) (few : x.bad + 1 < 3) :
    badSample c raw s = s.setSensing c { x with history := [], good := 0, bad := x.bad + 1 } := by
  subst hx
  rw [badSample, if_neg (by simp [sound]), if_neg (by omega)]

/-- The third bad sample in a run. -/
theorem badSample_faults (hx : s.sensing.get c = x) (sound : x.faulted = false) (third : 3 ≤ x.bad + 1) :
    badSample c raw s = sensorFaultNotice c
      (queueEvent (event .sensorFault (some c) (if raw < 200 then 0 else 1) 0 raw)
        (s.setSensing c { x with history := [], good := 0, faulted := true, bad := 0 })) := by
  subst hx
  rw [badSample, if_neg (by simp [sound]), if_pos third]

end GoodSample

/-- The windows with the window of a front corner, if it is one, abandoned. -/
def abandonWindow (c : Corner) (w : PerFront (Option Window)) : PerFront (Option Window) :=
  match c.front? with
  | none => w
  | some f => w.set f none

/-- The sensor fault notice releases the guard and abandons the window. -/
theorem sensorFaultNotice_eq (c : Corner) (s : State) :
    sensorFaultNotice c s = releaseGuard c { s with window := abandonWindow c s.window } := by
  have commutes (f : Front) : (releaseGuard c s).setWindow f none = releaseGuard c (s.setWindow f none) := by
    by_cases engaged : (s.guard.get c).engaged = none
    · rw [releaseGuard_released engaged, releaseGuard_released (s := s.setWindow f none) engaged]
    · rw [releaseGuard_engaged engaged, releaseGuard_engaged (s := s.setWindow f none) engaged, resolve_eq, resolve_eq]
      rfl
  cases c with
  | fl => exact commutes .fl
  | fr => exact commutes .fr
  | rl => rfl
  | rr => rfl

/-- The windows after a sensor fault. -/
theorem abandonWindow_get (c : Corner) (w : PerFront (Option Window)) (f : Front) :
    (abandonWindow c w).get f = if f.corner = c then none else w.get f := by
  cases c <;> cases f <;> rfl

/-- A released guard leaves the sensing, the link and the windows. -/
theorem releaseGuard_leaves (c : Corner) (s : State) : (releaseGuard c s).sensing = s.sensing ∧
    (releaseGuard c s).link = s.link ∧ (releaseGuard c s).window = s.window := by
  by_cases engaged : (s.guard.get c).engaged = none
  · rw [releaseGuard_released engaged]; exact ⟨rfl, rfl, rfl⟩
  · rw [releaseGuard_engaged engaged, resolve_eq]; exact ⟨rfl, rfl, rfl⟩

/-- Settles O44: a conversion is discarded, good or bad, and what it makes of the sensor is told case by case. -/
theorem travelSampleTaken : Obligations.TravelSampleTaken := by
  refine ⟨?_, ?_, ?_⟩
  · rintro c raw s conv x travelZero scale d pos history hpos hconv hx hscale hd hposition hhistory
    have next : { s.conv with pos := (ScanPos.travel c).next } = conv := by rw [hconv]; cases c <;> rfl
    obtain ⟨u, hu⟩ : ∃ u, u = { s with conv := conv } := ⟨_, rfl⟩
    rw [exec_travelConversion hpos, next, ← hu]
    have own : u.sensing.get c = x := by rw [hu, hx]
    have same : u.control = s.control := by rw [hu]
    have kept (awake : s.control.part ≠ .waking) (on : x.enabled = true) (raw : Nat) :
        travelSample c raw u = if 200 ≤ raw ∧ raw ≤ 3895 then goodSample c raw u else badSample c raw u := by
      rw [travelSample, own, same, on, if_neg (by simp [awake])]
    refine ⟨fun discarded => ?_, fun awake on low high => ?_, fun awake on bad => ?_⟩
    · rw [travelSample, own, same, if_pos (by simpa using discarded)]
    · rw [kept awake on, if_pos ⟨low, high⟩]
      have position : x.position raw.toNat = pos := by rw [hposition, Sensing.position_eq (hscale on) _ hd]
      have appended : appendPosition pos x.history = history := hhistory.symm
      refine ⟨fun sound short => ?_, fun faulted few => ?_, fun p q w v e full => ⟨fun sound => ?_, fun faulted enough => ?_⟩,
        fun faulted enough short => ?_⟩
      · rw [goodSample_sound own sound rfl, position, appended, handPosition_short short, hu]; rfl
      · rw [goodSample_faulted own faulted few, position, appended, hu]; rfl
      · rw [goodSample_sound own sound rfl, position, appended, handPosition_full full, hu]; rfl
      · rw [goodSample_recovers own faulted enough rfl, position, appended, handPosition_full full, hu]; rfl
      · rw [goodSample_recovers own faulted enough rfl, position, appended, handPosition_short short, hu]; rfl
    · rw [kept awake on, if_neg (by omega)]
      refine ⟨fun faulted => ?_, fun sound few => ?_, fun sound third => ?_⟩
      · rw [badSample_faulted own faulted, hu]; rfl
      · rw [badSample_sound own sound few, hu]; rfl
      · obtain ⟨t, ht⟩ : ∃ t, t = { u with
            sensing := s.sensing.set c { x with history := [], good := 0, faulted := true, bad := 0 },
            link := s.link.record (event .sensorFault (some c) (if raw.toNat < 200 then 0 else 1) 0 raw.toNat),
            window := abandonWindow c s.window } := ⟨_, rfl⟩
        have noticed : badSample c raw.toNat u = releaseGuard c t := by
          rw [badSample_faults own sound third, sensorFaultNotice_eq, ht, hu]; rfl
        obtain ⟨sensing, link, window⟩ := releaseGuard_leaves c t
        refine ⟨_, congrArg Host.Outcome.next noticed, ?_, ?_, fun f => ?_, fun engaged => ?_, fun released => ?_⟩
        · rw [sensing, ht]
        · rw [link, ht]
        · rw [window, ht]; exact abandonWindow_get ..
        · rw [sensing, link, window, releaseGuard_engaged (by rw [ht, hu]; exact engaged), ht, hu]
        · rw [releaseGuard_released (by rw [ht, hu]; exact released), ht, hu]
  · rintro c x v s (rfl | rfl) <;> rfl
  · intro f x v s
    have front : f.corner.front? = some f := by cases f <;> rfl
    refine ⟨s.choices + 1, ?_⟩
    rw [handSample, front]
    exact inEitherOrder_cases ..

end Sys2Proof.Machine

/-! PROOF. The impact detectors. -/

namespace Sys2Proof.Machine

/-! ### A window that closes (R40) -/

/-- A maturity check keeps the distance unit and the preview settings. -/
theorem maturityCheck_keeps (c : Corner) (s : State) :
    (maturityCheck c s).dist = s.dist ∧ (maturityCheck c s).preview = s.preview := by
  obtain ⟨x, a, m, r, es, -, -, frame⟩ := maturityCheck_frame c s
  rw [frame]
  exact ⟨rfl, rfl⟩

/-- An offer to a queue keeps the distance unit and the preview settings. -/
theorem offerToQueue_keeps (c : Corner) (e : Entry) (s : State) :
    (offerToQueue c e s).1.dist = s.dist ∧ (offerToQueue c e s).1.preview = s.preview := by
  have placed (lost : Option Entry) (q : List Entry) :
      (recordLost c lost (s.setQueue c q)).dist = s.dist ∧ (recordLost c lost (s.setQueue c q)).preview = s.preview := by
    cases lost <;> exact ⟨rfl, rfl⟩
  unfold offerToQueue
  simp only
  split
  · exact placed ..
  · rw [(maturityCheck_keeps c _).1, (maturityCheck_keeps c _).2]; exact placed ..

/-- A closing window: its record, and then the entry it makes, if it makes one. -/
theorem closeWindow_eq {f : Front} {w : Window} {s u : State} (hu : u = { s with
      window := s.window.set f none,
      link := s.link.record (event .impactDetected (some f.corner) (BitVec.ofNat 8 w.peak) w.dir.code
        (signedDiff w.opening s.dist.odometer).toNat) }) :
    closeWindow f w s = match s.preview.detection.mapCell w.dir w.peak, s.dist.ring with
      | some p, some ring =>
        if s.preview.active = true ∧ s.dist.previewMinSpeed ≤ s.dist.speed ∧
            (s.sensing.get f.rear).enabled = true then
          (offerToQueue f.rear {
              id := s.preview.nextId, arrival := w.opening + BitVec.ofNat 32 ring.wheelbase, cls := w.peak,
              dir := w.dir, profile := p, origin := .detected, source := some f }
            { u with preview := { s.preview with nextId := s.preview.nextId + 1 } }).1
        else u
      | _, _ => u := by
  have closed : closeWindow f w s = match detectedEntry f w u with
      | none => u
      | some e => (offerToQueue f.rear e (drawId u)).1 := by rw [hu]; rfl
  rw [closed, detectedEntry]
  subst hu
  cases s.preview.detection.mapCell w.dir w.peak with
  | none => rfl
  | some p =>
    cases s.dist.ring with
    | none => rfl
    | some ring =>
      by_cases made : s.preview.active = true ∧ s.dist.previewMinSpeed ≤ s.dist.speed ∧
          (s.sensing.get f.rear).enabled = true
      · simp only [if_pos made]; rfl
      · simp only [if_neg made]

/-- A closing window keeps the distance unit and the detection settings. -/
theorem closeWindow_keeps (f : Front) (w : Window) (s : State) :
    (closeWindow f w s).dist = s.dist ∧ (closeWindow f w s).preview.detection = s.preview.detection := by
  unfold closeWindow
  simp only
  split
  · exact ⟨rfl, rfl⟩
  · rw [(offerToQueue_keeps ..).1, (offerToQueue_keeps ..).2]; exact ⟨rfl, rfl⟩

/-! ### Samples and notices at a detector (R35 to R39) -/

/-- A detector's classes in the two directions exclude each other. -/
theorem Detection.classOf_compression_zero {d : Detection} {v : Int} (h : 0 < d.classOf .rebound v) (pos : 0 < d.tc1) :
    d.classOf .compression v = 0 := by
  have rebound : ¬ -v < d.tr1 := fun low => absurd h (by simp [Detection.classOf, low])
  exact if_pos (by omega)

/-- A sample that opens a window in a direction. -/
theorem openWindow_in {f : Front} {v : Int} {s : State} {dir : Dir} (h : 0 < s.preview.detection.classOf dir v)
    (pos : 0 < s.preview.detection.tc1) : openWindow f v s =
      s.setWindow f (some ⟨dir, s.preview.detection.classOf dir v, s.dist.odometer⟩) := by
  cases dir with
  | compression => exact if_pos h
  | rebound =>
    have none : ¬ 0 < s.preview.detection.classOf .compression v := by
      rw [Detection.classOf_compression_zero h pos]; exact Nat.lt_irrefl 0
    exact (if_neg none).trans (if_pos h)

/-- A sample at an open window, in Running. -/
theorem detectorSample_open {f : Front} {v : Int} {s : State} {w : Window} (run : s.control.part = .running)
    (held : s.window.get f = some w) : detectorSample f v s =
      if 0 < s.preview.detection.classOf w.dir.opposite v then openWindow f v (closeWindow f w s)
      else if s.preview.detection.closes w.dir v then closeWindow f w s
      else s.setWindow f (some { w with peak := max w.peak (s.preview.detection.classOf w.dir v) }) := by
  rw [detectorSample, if_pos run, held]

/-- A notice at an open window. -/
theorem detectorNotice_open {f : Front} {s : State} {w : Window} (held : s.window.get f = some w) :
    detectorNotice f s = if (s.preview.detection.windowMax : Int) ≤ signedDiff w.opening s.dist.odometer
      then closeWindow f w s else s := by
  rw [detectorNotice, held]; rfl

/-- The closing level of a direction. -/
theorem Detection.closes_iff (d : Detection) (dir : Dir) (v : Int) : d.closes dir v = true ↔ ¬ (match dir with
    | .compression => (d.tc1 : Int) - d.hysteresis ≤ v
    | .rebound => (d.tr1 : Int) - d.hysteresis ≤ -v) := by
  cases dir <;> exact decide_eq_true_iff.trans Int.not_le.symm

/-- Settles O46: by the window the detector holds, and then by the class on the other side and the closing level. -/
theorem detectorFollowsVelocity : Obligations.DetectorFollowsVelocity := by
  rintro f v s d cls rfl hcls
  have classes (dir : Dir) : cls dir = s.preview.detection.classOf dir v := by rw [hcls]; cases dir <;> rfl
  refine ⟨fun idle => ?_, fun run shut => ?_, fun shut => ?_, fun w near u closed held hnear hu hclosed => ?_⟩
  · rw [detectorSample, if_neg idle]
  · rw [detectorSample, if_pos run, shut, classes, classes]; rfl
  · rw [detectorNotice, shut]
  have shuts : closeWindow f w s = closed := (closeWindow_eq hu).trans hclosed.symm
  have level : s.preview.detection.closes w.dir v = true ↔ ¬ near := by
    rw [hnear]; exact Detection.closes_iff ..
  refine ⟨fun run same stays => ?_, fun run same falls => ?_, fun run other pos => ?_, fun long => ?_, fun short => ?_⟩
  · rw [classes] at same ⊢
    rw [detectorSample_open run held, if_neg (by omega), if_neg (fun h => level.1 h stays)]; rfl
  · rw [classes] at same
    rw [detectorSample_open run held, if_neg (by omega), if_pos (level.2 falls), shuts]
  · rw [classes] at other ⊢
    obtain ⟨dist, detection⟩ := closeWindow_keeps f w s
    rw [shuts] at dist detection
    rw [detectorSample_open run held, if_pos other, shuts, ← dist, ← detection,
      openWindow_in (dir := w.dir.opposite) (by rw [detection]; exact other) (by rw [detection]; exact pos)]
    rfl
  · rw [detectorNotice_open held, if_pos long, shuts]
  · rw [detectorNotice_open held, if_neg (by omega)]

end Sys2Proof.Machine

/-! PROOF. The supply monitor. -/

namespace Sys2Proof.Machine

/-- The band after a sample, its three bands told by their limits. -/
theorem Band.after_eq (b : Band) (v : Nat) : b.after v = match b with
    | .normal => if v < 6000 ∨ 18000 < v then .hold else if v ≤ 8999 then .low else .normal
    | .low => if v < 6000 ∨ 18000 < v then .hold else if 9500 ≤ v then .normal else .low
    | .hold => if v < 6500 ∨ 17500 < v then .hold else if v ≤ 9499 then .low else .normal := by
  cases b with
  | normal => rfl
  | low => rfl
  | hold =>
    simp only [Band.after]
    by_cases out : v < 6500 ∨ 17500 < v
    · rw [if_pos out, if_neg (by omega), if_neg (by omega)]
    · rw [if_neg out]
      by_cases low : v ≤ 9499
      · rw [if_pos low, if_pos (by omega)]
      · rw [if_neg low, if_neg (by omega), if_pos (by omega)]

/-! ### A regulator at a supply Hold (R126, R146) -/

/-- A regulator in a regulation mode: its target is kept pending, or taken from the slot, as FixedLatency says. -/
theorem enterHold_regulating {r : Regulator} (mode : r.mode = .regulating ∨ (∃ n, r.mode = .kick n) ∨
      (∃ n, r.mode = .quench n) ∨ (∃ n sum, r.mode = .probe n sum)) (g : Regulation) {stays : Bool}
    (hstays : stays = (g.fixedLatency && (r.slot.bind (·.applyAt)).isSome)) : enterHold g r = { r with
      mode := .hold, duty := 0, probeTimer := none, probeDue := false, testWaiting := false, openCount := 0,
      slot := if stays then r.slot else none,
      target := if stays then r.target else match r.slot with
        | some p => some p.target
        | none => r.target } := by
  have enters : enterHold g r = { slotAtHold g r with
      mode := .hold, duty := 0, probeTimer := none, probeDue := false, testWaiting := false, openCount := 0 } := by
    rcases mode with h | ⟨_, h⟩ | ⟨_, h⟩ | ⟨_, _, h⟩ <;> rw [enterHold, h]
  have slot : slotAtHold g r = { r with
      slot := if stays then r.slot else none,
      target := if stays then r.target else match r.slot with
        | some p => some p.target
        | none => r.target } := by
    obtain ⟨_, _, _, slot⟩ := r
    cases slot with
    | none => simp [slotAtHold]
    | some p =>
      simp only [slotAtHold, hstays, Option.bind_some, Bool.and_eq_true]
      split <;> rfl
  rw [enters, slot]

/-! ### A VBAT conversion (R20, R21, R144) -/

/-- A VBAT conversion goes to the supply monitor, and the scan is over. -/
theorem exec_vbatConversion {s : State} (hpos : s.conv.pos = .vbat) (raw : Count) : exec (.vbatConversion raw) s =
    .next (supplySample ((2 * (raw.toNat * 6000) + 1024) / 2048) { s with conv := { s.conv with pos := .idle } }) := by
  have done : vbatDone raw s = supplySample (batteryVoltage raw.toNat)
      (s.setConv { s.conv with pos := s.conv.pos.next }) := by rw [vbatDone, hpos]
  rw [hpos] at done
  exact congrArg Host.Outcome.next done

/-- A band entered: its record, and then what becomes of the regulators. -/
theorem supplySample_entered {v : Nat} {s u : State} {band : Band} (hband : s.supply.band.after v = band)
    (entered : band ≠ s.supply.band) (hu : u = { s with
      supply := { vbat := some v, band := band }, link := s.link.record (bandRecord band v) }) :
    supplySample v s =
      if band = .hold then cancelTests { u with reg := u.reg.mapIdx fun _ r => enterHold u.regulation r }
      else if s.supply.band = .hold then
        { u with reg := u.reg.mapIdx fun c r => leaveHold u.regulation band c u.now r }
      else u := by
  subst hband hu
  rw [supplySample, if_neg entered]; rfl

/-- A sample that leaves the band as it is. -/
theorem supplySample_same {v : Nat} {s : State} {band : Band} (hband : s.supply.band.after v = band)
    (same : band = s.supply.band) : supplySample v s = { s with supply := { vbat := some v, band := band } } := by
  subst hband
  rw [supplySample, if_pos same]; rfl

/-- Settles O47: the band entered decides; entering Hold cancels every CoilTest after the regulators have gone to Hold. -/
theorem supplyBandFollowsVbat : Obligations.SupplyBandFollowsVbat := by
  rintro raw s v band link conv supply hpos hv hconv hband hsupply hlink
  obtain ⟨u, hu⟩ : ∃ u, u = { s with conv := conv } := ⟨_, rfl⟩
  have sampled : exec (.vbatConversion raw) s = .next (supplySample v u) := by
    rw [exec_vbatConversion hpos, ← hv, ← hconv, ← hu]
  have after : u.supply.band.after v = band := by
    rw [hu, hband]; exact Band.after_eq ..
  have before : u.supply.band = s.supply.band := by rw [hu]
  obtain ⟨w, hw⟩ : ∃ w, w = { s with conv := conv, supply := supply, link := link } := ⟨_, rfl⟩
  have recorded : w = { u with
      supply := { vbat := some v, band := band }, link := u.link.record (bandRecord band v) } := by
    rw [hw, hu, hsupply, hlink]; cases band <;> rfl
  rw [sampled]
  refine ⟨fun same => ?_, fun entered other notHeld => ?_, fun hold notHeld => ?_, fun other held => ?_⟩
  · rw [supplySample_same after (same.trans before.symm), hu, hsupply]
  · rw [supplySample_entered after (by rw [before]; exact entered) recorded, if_neg other,
      if_neg (by rw [before]; exact notHeld), hw]
  · obtain ⟨x, hx⟩ : ∃ x, x = { w with reg := w.reg.mapIdx fun _ r => enterHold w.regulation r } := ⟨_, rfl⟩
    have entered : supplySample v u = cancelTests x := by
      rw [supplySample_entered after (by rw [before, hold]; exact notHeld.symm) recorded, if_pos hold, hx]
    obtain ⟨ev, ov, at', framed⟩ : ∃ ev ov at', link = { s.link with events := ev, overflow := ov, atn := at' } := by
      rw [hlink]; exact LinkState.record_frame ..
    have xlink : x.link = link := by rw [hx, hw]
    have inflight : x.link.inflight = s.link.inflight := by rw [xlink, framed]
    have xreg (c : Corner) : x.reg.get c = enterHold s.regulation (s.reg.get c) := by
      rw [hx, hw]; exact PerCorner.get_mapIdx ..
    obtain ⟨order, perm, cancelled⟩ := cancelTests_eq x
    have answers (sum : Byte) : x.cancelledAnswers sum order = s.cancelledAnswers sum order := by
      simp only [State.cancelledAnswers, inflight]
    have counted : link.reservations - (Corner.list.filter fun k => (link.inflight.get k).isSome).length =
        s.link.reservations - (Corner.list.filter fun k => (s.link.inflight.get k).isSome).length := by rw [framed]
    obtain ⟨t, ht⟩ : ∃ t, cancelTests x = t := ⟨_, rfl⟩
    rw [ht] at cancelled entered
    have sum : summary t = summary x := by rw [cancelled]; rfl
    have tlink : t.link = { link with
        replies := s.link.replies ++ s.cancelledAnswers (summary x) order,
        reservations := s.link.reservations - (Corner.list.filter fun k => (s.link.inflight.get k).isSome).length,
        inflight := ⟨none, none, none, none⟩ } := by
      rw [cancelled]
      simp only [answers, xlink]
      rw [counted, show link.replies = s.link.replies by rw [framed]]
    refine ⟨t, congrArg Host.Outcome.next entered, fun c r stays hr hstays => ?_, ⟨order, perm, ?_, ?_⟩, ?_⟩
    · have got : t.reg.get c = (enterHold s.regulation (s.reg.get c)).answered (s.link.inflight.get c) := by
        rw [cancelled, PerCorner.get_mapIdx, xreg, inflight]
      rw [got]
      refine ⟨fun mode => ?_, fun n sum ret mode => ?_, fun mode => ?_⟩
      · have left : enterHold s.regulation (s.reg.get c) = s.reg.get c := by
          rw [hr] at mode
          rcases mode with h | h | h <;> rw [enterHold, show (s.reg.get c).mode = _ from h]
        rw [left, hr]; rfl
      · have left : enterHold s.regulation (s.reg.get c) = { s.reg.get c with mode := ret.mode, duty := 0 } := by
          rw [hr] at mode
          have test : (s.reg.get c).mode = .test n sum ret := mode
          rw [enterHold, test]
          simp only [abandonTest, test]
        rw [left, hr]; rfl
      · subst hr
        exact (congrArg (Regulator.answered (s.link.inflight.get c)) (enterHold_regulating (r := s.reg.get c) mode s.regulation
          hstays)).trans
          (Regulator.answered_of_idle rfl _)
    · rw [tlink, sum]
    · rw [tlink]
    · rw [cancelled, hx, hw]
  · have left : supplySample v u = { w with reg := w.reg.mapIdx fun c r => leaveHold w.regulation band c w.now r } := by
      rw [supplySample_entered after (by rw [before, held]; exact other) recorded, if_neg other,
        if_pos (by rw [before]; exact held)]
    have got (c : Corner) : (w.reg.mapIdx fun c r => leaveHold w.regulation band c w.now r).get c =
        leaveHold s.regulation band c s.now (s.reg.get c) := by rw [hw, PerCorner.get_mapIdx]
    refine ⟨_, congrArg Host.Outcome.next left, fun c mode => ?_, fun c I r mode target hr => ?_, ?_⟩
    · rw [got, leaveHold, if_neg mode]
    · rw [got, leaveHold, if_pos mode, entryFromZero_of_target other target, hr]
    · rw [hw]

end Sys2Proof.Machine

/-! PROOF. Wheel pulses and silence expiries at the distance unit. -/

namespace Sys2Proof.Machine

/-! ### The vehicle speed (R8, R13) -/

/-- The vehicle speed of one wheel and the other, whichever of the two is which. -/
theorem vehicleSpeed_set (f : Front) (w : PerFront Wheel) (me other : Wheel) :
    vehicleSpeed ((w.set f me).set f.other other) =
      if other.state = .faulted ∧ me.state ≠ .faulted then me.speed
      else if me.state = .faulted ∧ other.state ≠ .faulted then other.speed
      else if me.state = .faulted then (if f = .fl then other.speed else me.speed)
      else (me.speed + other.speed) / 2 := by
  cases f with
  | fl =>
    show (if me.state = .faulted then other.speed else if other.state = .faulted then me.speed
      else (me.speed + other.speed) / 2) = _
    by_cases hm : me.state = .faulted <;> by_cases ho : other.state = .faulted <;> simp [hm, ho]
  | fr =>
    show (if other.state = .faulted then me.speed else if me.state = .faulted then other.speed
      else (other.speed + me.speed) / 2) = _
    by_cases hm : me.state = .faulted <;> by_cases ho : other.state = .faulted <;> simp [hm, ho, Nat.add_comm]

/-- A wheel speed with its rounding and its limit written out. -/
theorem wheelSpeed_eq (ring : Option Ring) (period : Option Nat) : wheelSpeed ring period = match ring, period with
    | some g, some p => min 80000 ((2 * (g.circumference * 1000000) + g.teeth * p) / (2 * (g.teeth * p)))
    | _, _ => 0 := by
  cases ring <;> cases period <;> rfl

/-- Maturity checks of empty queues and records, in any order: the records alone are left. -/
theorem foldl_checks_of_empty (order : List (Corner ⊕ Event)) {u : State} (empty : ∀ c, u.queue.get c = []) :
    order.foldl (fun w x => match x with
      | .inl c => maturityCheck c w
      | .inr e => { w with link := w.link.record e }) u =
      { u with link := (order.filterMap Sum.getRight?).foldl (fun l e => l.record e) u.link } := by
  induction order generalizing u with
  | nil => rfl
  | cons x order ih =>
    cases x with
    | inl c =>
      rw [List.foldl_cons]
      simp only [maturityCheck_empty c u (empty c)]
      exact ih empty
    | inr e => exact ih (u := { u with link := u.link.record e }) empty

/-- A hand-over of the vehicle speed with empty queues queues the record only. -/
theorem SpeedHanded.of_empty {before : Nat} {record : Option Event} {u v : State} (h : SpeedHanded before record u v)
    (empty : ∀ c, u.queue.get c = []) :
    v = { u with choices := v.choices, link := record.elim u.link u.link.record } := by
  obtain ⟨same, changed⟩ := h
  by_cases speed : u.dist.speed = before
  · rw [same speed]
  · obtain ⟨n, order, perm, folded⟩ := changed speed
    have records : order.filterMap Sum.getRight? = record.toList := by
      have kept := perm.filterMap Sum.getRight?
      rw [List.filterMap_append, List.filterMap_map, List.filterMap_map] at kept
      cases record with
      | none => exact List.perm_nil.1 kept
      | some e => exact List.perm_singleton.1 kept
    rw [folded.trans (foldl_checks_of_empty order (u := { u with choices := n }) empty), records]
    cases record <;> rfl

/-- Actions named by a list act in a free order as the actions themselves do. -/
theorem forEachFree_map {α : Type} (act : α → State → State) (l : List α) (s : State) :
    forEachFree (l.map act) (fun f t => f t) s = forEachFree l act s := by
  simp only [forEachFree, State.inFreeOrder, List.length_map, freeOrder_map, List.foldl_map]

/-- Every maturity check and both detectors act at an advance notice, in some order, after the runners (R49, R50). -/
theorem advanceNotice_order (s : State) : ∃ (n : Nat) (order : List (Corner ⊕ Front)),
    order.Perm ([Corner.fl, .fr, .rl, .rr].map Sum.inl ++ [Front.fl, .fr].map Sum.inr) ∧
    advanceNotice s = order.foldl (fun u x => match x with
        | .inl c => maturityCheck c u
        | .inr f => detectorNotice f u)
      { runnerNotice .rr (runnerNotice .rl (runnerNotice .fr (runnerNotice .fl s))) with choices := n } := by
  obtain ⟨order, perm, acted⟩ := forEachFree_order ([Corner.fl, .fr, .rl, .rr].map Sum.inl ++ [Front.fl, .fr].map Sum.inr)
    (Sum.elim maturityCheck detectorNotice) (Corner.list.foldl (fun t c => runnerNotice c t) s)
  refine ⟨(runnerNotice .rr (runnerNotice .rl (runnerNotice .fr (runnerNotice .fl s)))).choices + 6, order, perm,
    (forEachFree_map (Sum.elim maturityCheck detectorNotice)
    ([Corner.fl, .fr, .rl, .rr].map Sum.inl ++ [Front.fl, .fr].map Sum.inr) _).trans (acted.trans ?_)⟩
  have named : (fun t a => Sum.elim maturityCheck detectorNotice a t) = fun (u : State) (x : Corner ⊕ Front) =>
      match x with
      | .inl c => maturityCheck c u
      | .inr f => detectorNotice f u := by
    funext u x
    cases x <;> rfl
  rw [named]; rfl

/-! ### A silence expiry (R9, R11, R16) -/

/-- A wheel at its silence expiry, by its state and the judgement of R11. -/
theorem Wheel.silenced_eq (judged : Bool) (now : Nat) (me : Wheel) : me.silenced judged now =
    if me.state = .faulted then { me with lastEdge := none, period := none, silence := some (now + 250000), restore := 0 }
    else if judged then { me with
      lastEdge := none, period := none, silence := some (now + 250000), restore := 0, speed := 0, state := .faulted }
    else { me with lastEdge := none, period := none, silence := some (now + 250000), speed := 0, state := .silent } := by
  unfold Wheel.silenced
  cases state : me.state <;> cases judged <;> rfl

/-- The distance unit with one wheel replaced, the other's cross count at 0, and the vehicle speed recomputed. -/
def Distance.withWheel (d : Distance) (f : Front) (me other : Wheel) : Distance := { d with
  wheel := (d.wheel.set f me).set f.other { other with cross := 0 },
  speed := if other.state = .faulted ∧ me.state ≠ .faulted then me.speed
    else if me.state = .faulted ∧ other.state ≠ .faulted then other.speed
    else if me.state = .faulted then (if f = .fl then other.speed else me.speed)
    else (me.speed + other.speed) / 2 }

theorem Distance.withWheel_eq (d : Distance) (f : Front) (me other : Wheel) :
    ({ d with wheel := (d.wheel.set f me).set f.other { other with cross := 0 } } : Distance).withSpeed =
      d.withWheel f me other := by
  rw [Distance.withSpeed, vehicleSpeed_set]; rfl

/-- Both wheel speeds are 0, whichever wheel is which. -/
theorem Distance.withWheel_still (d : Distance) (f : Front) (me other : Wheel) :
    (decide ((d.withWheel f me other).wheel.fl.speed = 0) && decide ((d.withWheel f me other).wheel.fr.speed = 0)) =
      (decide (me.speed = 0) && decide (other.speed = 0)) := by
  cases f
  · rfl
  · exact Bool.and_comm ..

/-- Settles O41: the speed is handed on first, and then DistanceLost is evaluated. -/
theorem silenceJudgesWheel : Obligations.SilenceJudgesWheel := by
  rintro f s T me other me' dist judged lost l1 record hme hother running hjudged hme' hlost hdist hrecord hl1
  obtain ⟨u, hu⟩ : ∃ u, u = { s with now := max s.now T, dist := { dist with lost := s.dist.lost } } := ⟨_, rfl⟩
  obtain ⟨v, hv⟩ : ∃ v, handSpeed s.dist.speed record u = v := ⟨_, rfl⟩
  have wheels : { dist with lost := s.dist.lost } = s.dist.withWheel f me' other := by rw [hdist]; rfl
  have taken : exec (.silenceExpiry f) s = .next (evalDistanceLost v) := by
    have expired : silence f s = evalDistanceLost (handSpeed s.dist.speed record { s with
        now := max s.now T,
        dist := ({ s.dist with
          wheel := (s.dist.wheel.set f (me.silenced judged (max s.now T))).set f.other { other with cross := 0 } } :
            Distance).withSpeed }) := by
      rw [hme] at running
      rw [hrecord, hjudged, hother, hme, silence, running]; rfl
    rw [Distance.withWheel_eq, Wheel.silenced_eq, ← hme', ← wheels, ← hu, hv] at expired
    exact congrArg Host.Outcome.next expired
  have handed : SpeedHanded s.dist.speed record u v := hv ▸ handSpeed_handed ..
  obtain ⟨-, vdist, -, vpreview⟩ := handed.frame
  have atV : v.dist = s.dist.withWheel f me' other := by rw [vdist, hu, ← wheels]
  have preview : v.preview = s.preview := by rw [vpreview, hu]
  have judge : lost = (!v.dist.lost && decide (v.dist.wheel.fl.speed = 0) && decide (v.dist.wheel.fr.speed = 0) &&
      decide (2000 ≤ v.dist.referenceSpeed)) := by
    rw [atV, Bool.and_assoc (!_), Distance.withWheel_still, hlost, Bool.and_assoc (!_)]; rfl
  obtain ⟨kept, still, flushed⟩ := evalDistanceLost_cases v _ lost judge rfl
  obtain ⟨w, hw⟩ : ∃ w, w = { v with
      dist := dist, preview := { s.preview with active := false },
      link := v.link.record (event .distanceLost none 0 0 s.dist.referenceSpeed) } := ⟨_, rfl⟩
  have same (h : lost = true) : ({ v with
      dist := { v.dist with lost := true }, preview := { v.preview with active := false },
      link := v.link.record (event .distanceLost none 0 0 v.dist.referenceSpeed) } : State) = w := by
    rw [hw, preview, atV, ← wheels, hdist, h]; rfl
  have unlost (h : lost = false) : v.dist = dist := by
    rw [atV, ← wheels, hdist, h]; rfl
  have left (h : lost = true) : (evalDistanceLost v).dist = w.dist ∧ (evalDistanceLost v).preview = w.preview := by
    cases active : s.preview.active with
    | false => rw [still h (by rw [preview, active]), same h]; exact ⟨rfl, rfl⟩
    | true =>
      obtain ⟨-, -, -, -, frame⟩ := flushed h (by rw [preview, active])
      rw [frame, same h]; exact ⟨rfl, rfl⟩
  refine ⟨evalDistanceLost v, v, w, taken, ?_, ?_, hu ▸ handed, hw, kept, fun h off => ?_, fun h on => ?_,
    fun empty off => ?_⟩
  · cases h : lost with
    | false => rw [kept h, unlost h]
    | true => rw [(left h).1, hw]
  · cases h : lost with
    | false => rw [kept h, preview]; rfl
    | true => rw [(left h).2, hw]; rfl
  · rw [← same h]; exact still h (by rw [preview, off])
  · rw [← same h]; exact flushed h (by rw [preview, on])
  · have only : v = { s with now := max s.now T, choices := v.choices, dist := v.dist, link := l1 } := by
      refine (handed.of_empty (by rw [hu]; exact empty)).trans ?_
      rw [vdist, hl1, hu]
    cases h : lost with
    | false =>
      rw [kept h, ← unlost h, preview]
      exact only
    | true =>
      have recorded : v.link = l1 := congrArg State.link only
      rw [still h (by rw [preview, off]), same h, hw, recorded]
      exact congrArg (fun x : State => { x with
        dist := dist, preview := { s.preview with active := false },
        link := l1.record (event .distanceLost none 0 0 s.dist.referenceSpeed) }) only

end Sys2Proof.Machine

/-! PROOF. An accepted wheel pulse, and the advance notice it hands on. -/

namespace Sys2Proof.Machine

/-- A wheel after an accepted pulse, by its state before it (R7, R8, R10, R12). -/
theorem Wheel.pulse_eq {ring : Option Ring} {now : Nat} {stamp : Stamp} {me base : Wheel} (hbase : base = { me with
      lastEdge := some stamp, cross := min 255 (me.cross + 1), silence := some (now + 250000),
      period := me.lastEdge.map fun e => (stamp - e).toNat }) :
    me.pulse ring now stamp =
      if me.state = .valid then { base with speed := wheelSpeed ring base.period }
      else if me.state = .silent then { base with state := .valid, period := none, speed := 0 }
      else if 32 ≤ me.restore + 1 then { base with state := .valid, restore := 0, speed := wheelSpeed ring base.period }
      else { base with restore := me.restore + 1, speed := 0 } := by
  subst hbase
  unfold Wheel.pulse
  cases state : me.state <;> rfl

/-- The glitch filter passes an edge 50 µs or more after the last accepted one (R3). -/
theorem Wheel.accepts_iff (me : Wheel) (stamp : Stamp) :
    me.accepts stamp = true ↔ ∀ e, me.lastEdge = some e → 50 ≤ (stamp - e).toNat := by
  rw [Wheel.accepts, Wheel.interval]
  cases me.lastEdge with
  | none => simp
  | some e => exact decide_eq_true_iff.trans ⟨fun h e' he => Option.some.inj he ▸ h, fun h => h e rfl⟩

/-- Edges are captured outside Parked and Waking and while RESETN is high (R3, R152). -/
theorem capturing_iff (s : State) :
    capturing s = true ↔ s.resetLow = false ∧ s.control.part ≠ .parked ∧ s.control.part ≠ .waking := by
  simp [capturing, and_assoc]

/-- An edge that is not captured or not accepted only moves the clock. -/
theorem wheelEdge_ignored {f : Front} {stamp : Stamp} {s : State}
    (h : ¬ (capturing s = true ∧ (s.dist.wheel.get f).accepts stamp = true)) :
    wheelEdge f stamp s = s.reachStamp stamp := by
  rw [wheelEdge]
  exact if_neg fun both => h (Bool.and_eq_true_iff.1 both)

/-- An accepted edge. -/
theorem wheelEdge_accepted {f : Front} {stamp : Stamp} {s : State} (captured : capturing s = true)
    (accepted : (s.dist.wheel.get f).accepts stamp = true) :
    wheelEdge f stamp s = acceptPulse f stamp (s.reachStamp stamp) := by
  rw [wheelEdge]
  exact if_pos (Bool.and_eq_true_iff.2 ⟨captured, accepted⟩)

/-- Clearing DistanceLost where it is not set changes nothing. -/
theorem restoreDistance_kept {f : Front} {u : State} (h : u.dist.lost = false) : restoreDistance f u = u := by
  rw [restoreDistance, if_neg (by simp [h])]

/-- Clearing DistanceLost while the preview flag is false: its record, and the flag judged again (R17, R51). -/
theorem restoreDistance_restored {f : Front} {u : State} (lost : u.dist.lost = true) (off : u.preview.active = false) :
    restoreDistance f u = { u with
      dist := { u.dist with lost := false },
      preview := { u.preview with
        active := decide (u.control.part = .running) && decide (u.dist.direction = .forward) },
      link := u.link.record (event .distanceRestored (some f.corner) 0 0 u.dist.referenceSpeed) } := by
  rw [restoreDistance, if_pos lost, judgePreview_of_inactive (by exact off)]
  simp only [previewCondition, State.setDist, queueEvent, State.setLink, Bool.not_false, Bool.and_true]
  rfl

/-- An accepted pulse: the distance unit as the wheels leave it, and then what the wheel state and the geometry ask for. -/
theorem acceptPulse_eq {f : Front} {stamp : Stamp} {s u : State} {me other me' : Wheel} (hme : s.dist.wheel.get f = me)
    (hother : s.dist.wheel.get f.other = other) (hme' : me.pulse s.dist.ring s.now stamp = me')
    (hu : u = { s with dist := s.dist.withWheel f me' other }) : acceptPulse f stamp s =
      if me.state = .faulted then handSpeed s.dist.speed (restoredRecord f me me') u
      else match (restoreDistance f u).dist.ring with
        | none => handSpeed s.dist.speed none (restoreDistance f u)
        | some g => advanceNotice ((restoreDistance f u).setDist
            ((restoreDistance f u).dist.advance (increment g (other.state = .faulted)))) := by
  subst hme hother hme'
  rw [← Distance.withWheel_eq] at hu
  subst hu
  rfl

/-- The odometer's increment, its rounding written out (R5). -/
theorem increment_eq (g : Ring) (full : Prop) [Decidable full] : increment g (decide full) =
    if full then (2 * (g.circumference * 256) + g.teeth) / (2 * g.teeth)
    else (2 * (g.circumference * 128) + g.teeth) / (2 * g.teeth) := by
  by_cases h : full <;> simp only [h, increment, decide_true, decide_false, if_true, if_false] <;> rfl

/-- What a hand-over of the vehicle speed leaves of the distance unit, and of all else where the queues are empty. -/
theorem handSpeed_leaves (before : Nat) (record : Option Event) (u : State) : ∃ t, handSpeed before record u = t ∧
    t.dist = u.dist ∧ SpeedHanded before record u t ∧
    ((∀ c, u.queue.get c = []) →
      t = { u with choices := t.choices, link := record.elim u.link u.link.record }) := by
  have handed := handSpeed_handed before record u
  obtain ⟨-, dist, -, -⟩ := handed.frame
  exact ⟨_, rfl, dist, handed, handed.of_empty⟩

/-- Settles O40: the edge is ignored, or it is accepted and the wheel state, the geometry and DistanceLost decide. -/
theorem wheelPulseTaken : Obligations.WheelPulseTaken := by
  refine ⟨?_, advanceNotice_order⟩
  rintro f stamp s now me other base me' dist speed hnow hme hother hspeed hbase hme' hdist
  have reached : s.reachStamp stamp = { s with now := now } := by rw [hnow]; rfl
  have rated (p : Option Nat) : wheelSpeed s.dist.ring p = speed p := by
    rw [hspeed]; exact wheelSpeed_eq ..
  have pulsed : me.pulse s.dist.ring now stamp = me' := by
    rw [Wheel.pulse_eq hbase, rated, hme']
  have moved : s.dist.withWheel f me' other = dist := hdist.symm
  refine ⟨fun ignored => ?_, fun high unparked awake late => ?_⟩
  · have refused : ¬ (capturing s = true ∧ (s.dist.wheel.get f).accepts stamp = true) := by
      rw [capturing_iff, Wheel.accepts_iff, ← hme]
      rintro ⟨⟨high, unparked, awake⟩, late⟩
      rcases ignored with h | h | h | ⟨e, edge, early⟩
      · exact absurd (high.symm.trans h) (by decide)
      · exact unparked h
      · exact awake h
      · exact absurd (late e edge) (by omega)
    exact congrArg Host.Outcome.next ((wheelEdge_ignored refused).trans reached)
  obtain ⟨u, hu⟩ : ∃ u, u = { s with now := now, dist := dist } := ⟨_, rfl⟩
  have taken : exec (.wheelPulse f stamp) s = .next
      (if me.state = .faulted then handSpeed s.dist.speed (restoredRecord f me me') u
        else match (restoreDistance f u).dist.ring with
          | none => handSpeed s.dist.speed none (restoreDistance f u)
          | some g => advanceNotice ((restoreDistance f u).setDist
              ((restoreDistance f u).dist.advance (increment g (other.state = .faulted))))) := by
    refine congrArg Host.Outcome.next ((wheelEdge_accepted ((capturing_iff s).2 ⟨high, unparked, awake⟩)
      ((Wheel.accepts_iff _ stamp).2 (by rw [← hme]; exact late))).trans ?_)
    rw [reached]
    exact acceptPulse_eq (s := { s with now := now }) hme.symm hother.symm pulsed (by rw [hu, ← moved])
  have ring : u.dist.ring = s.dist.ring := by rw [hu, ← moved]; rfl
  have lost : u.dist.lost = s.dist.lost := by rw [hu, ← moved]; rfl
  have restored (set : s.dist.lost = true) (off : s.preview.active = false) : restoreDistance f u = { s with
      now := now, dist := { dist with lost := false },
      preview := { s.preview with
        active := decide (s.control.part = .running) && decide (s.dist.direction = .forward) },
      link := s.link.record (event .distanceRestored (some f.corner) 0 0 s.dist.referenceSpeed) } := by
    rw [restoreDistance_restored (by rw [lost, set]) (by rw [hu]; exact off), hu, ← moved]; rfl
  have dring : dist.ring = s.dist.ring := by rw [← moved]; rfl
  have odometer : dist.odometer = s.dist.odometer := by rw [← moved]; rfl
  have fraction : dist.fraction = s.dist.fraction := by rw [← moved]; rfl
  rw [taken]
  refine ⟨fun faulted => ?_, fun sound unwritten clear => ?_, fun sound unwritten set off => ?_,
    fun g inc at' sound written hinc hat => ⟨fun clear => ?_, fun set off => ?_⟩⟩
  · have record : restoredRecord f me me' = if me'.state = .valid then
        some (event .wheelInputRestored (some f.corner) 0 0 me'.speed) else none := by
      simp only [restoredRecord, faulted, true_and]
    rw [if_pos faulted, record]
    obtain ⟨t, ht, left, handed, alone⟩ := handSpeed_leaves s.dist.speed (if me'.state = .valid then
      some (event .wheelInputRestored (some f.corner) 0 0 me'.speed) else none) u
    rw [ht]
    refine ⟨t, rfl, by rw [left, hu], hu ▸ handed, fun empty => (alone (by rw [hu]; exact empty)).trans ?_⟩
    rw [hu]
    split <;> rfl
  · rw [if_neg sound, restoreDistance_kept (by rw [lost, clear]), ring, unwritten]
    obtain ⟨t, ht, left, handed, alone⟩ := handSpeed_leaves s.dist.speed none u
    exact ⟨t, congrArg _ ht, by rw [left, hu], hu ▸ handed, fun empty =>
      (alone (by rw [hu]; exact empty)).trans (by rw [hu]; rfl)⟩
  · obtain ⟨x, hx⟩ : ∃ x, restoreDistance f u = x := ⟨_, rfl⟩
    have explicit := hx.symm.trans (restored set off)
    have xring : x.dist.ring = none := by rw [explicit]; exact dring.trans unwritten
    obtain ⟨t, ht, left, handed, alone⟩ := handSpeed_leaves s.dist.speed none x
    rw [if_neg sound, hx, xring]
    exact ⟨t, congrArg _ ht, by rw [left, explicit], explicit ▸ handed, fun empty =>
      (alone (by rw [explicit]; exact empty)).trans (by rw [explicit]; rfl)⟩
  · have advanced : u.dist.advance inc = at' := by
      have unlost : dist.lost = false := by rw [← clear, ← moved]; rfl
      rw [hu, hat]
      simp only [Distance.advance, odometer, fraction, unlost]
    rw [if_neg sound, restoreDistance_kept (by rw [lost, clear]), ring, written]
    show Host.Outcome.next (advanceNotice (u.setDist (u.dist.advance (increment g (decide (other.state = .faulted)))))) = _
    rw [increment_eq, ← hinc, advanced, hu]; rfl
  · obtain ⟨x, hx⟩ : ∃ x, restoreDistance f u = x := ⟨_, rfl⟩
    have explicit := hx.symm.trans (restored set off)
    have xring : x.dist.ring = some g := by rw [explicit]; exact dring.trans written
    have advanced : x.dist.advance inc = at' := by
      rw [explicit, hat]
      simp only [Distance.advance, odometer, fraction]
    rw [if_neg sound, hx, xring]
    show Host.Outcome.next (advanceNotice (x.setDist (x.dist.advance (increment g (decide (other.state = .faulted)))))) = _
    rw [increment_eq, ← hinc, advanced, explicit]; rfl

end Sys2Proof.Machine
